-- ==== Sys2Proof/Word.lean ====
section
/-! DEFINITION. Words, and the closed sets of names of the spec: operations, texel formats, packing classes,
alpha modes and the byte memories. -/

namespace Sys2Proof

/-- One byte of a byte-addressed memory, one channel of a Color (10_state.md R40, R46). -/
abbrev Byte := BitVec 8

/-- A word of the host interface: every register is 32 bits wide there (10_state.md R21). -/
abbrev Word := BitVec 32

/-- The five operations (30_encoding.md R91). -/
inductive Op where
  | fmt | p2b | decpx | decrgn | enc
  deriving DecidableEq, Repr

/-- The closed set of ten texel formats, in the source's order (00_scope.md R2, 30_encoding.md R92). -/
inductive Codec where
  | rgba16 | rgba32 | ia16 | ia8 | ia4 | i8 | i4 | ci8 | ci4 | oneBpp
  deriving DecidableEq, Repr

/-- How texels share bytes (20_memory.md R64, the CLASS field of 10_state.md R34). -/
inductive PackClass where
  | oneByte | twoBytes | fourBytes | nibble | bit
  deriving DecidableEq, Repr

/-- The closed set of three intensity-alpha modes (00_scope.md R3, 30_encoding.md R93). -/
inductive AlphaMode where
  | copyIntensity | binary | full
  deriving DecidableEq, Repr

/-- The MODE field of a command word: one of the three modes, or `none` for the reserved tag value 3, which an
operation that ignores MODE accepts (30_encoding.md R93, R100). -/
abbrev ModeField := Option AlphaMode

/-- The SEL field of a command word (30_encoding.md R94). -/
abbrev SelField := BitVec 3

/-- The four byte-addressed memories (20_memory.md R72). BMP, the fifth memory, holds Colors and has no byte view
(10_state.md R42). -/
inductive ByteSpace where
  | src | pal | out | opal
  deriving DecidableEq, Repr

/-- A Color: four independent 8-bit channels (10_state.md R46). -/
structure Color where
  a : Byte
  r : Byte
  g : Byte
  b : Byte
  deriving DecidableEq, Repr

end Sys2Proof
end

