-- ==== Sys2Proof/Config.lean ====
section
/-! DEFINITION. What an implementation fixes (capacities, base address) and the values the spec leaves free. Every
constant here is uninterpreted: no proof can see its value. -/

namespace Sys2Proof

/-- Capacities of the memories of one engine: SRC_CAP and PAL_CAP in bytes, BMP_CAP in texels (00_scope.md R7). -/
structure Caps where
  srcCap : Nat
  palCap : Nat
  bmpCap : Nat
  deriving DecidableEq, Repr

/-- The bounds the spec sets on the open capacities (00_scope.md R7). -/
abbrev Caps.ok (c : Caps) : Prop :=
  1 ≤ c.srcCap ∧ c.srcCap ≤ 2 ^ 32 - 1 ∧ 512 ≤ c.palCap ∧ 1 ≤ c.bmpCap ∧ c.bmpCap < 2 ^ 30

/-- The open parameter SRC_CAP before it is brought into its range (DESIGN CHOICE, log 2). -/
opaque Config.rawSrcCap : Nat

/-- The open parameter PAL_CAP, counted from its least value 512 (DESIGN CHOICE, log 2). -/
opaque Config.rawPalCap : Nat

/-- The open parameter BMP_CAP before it is brought into its range (DESIGN CHOICE, log 2). -/
opaque Config.rawBmpCap : Nat

/-- The capacities of the engine that `State.reset` describes: any capacities the spec admits, none in particular
(00_scope.md R7, 92_eei_decisions.md D29; log 2). -/
def Config.caps : Caps where
  srcCap := Config.rawSrcCap % (2 ^ 32 - 1) + 1
  palCap := Config.rawPalCap + 512
  bmpCap := Config.rawBmpCap % (2 ^ 30 - 1) + 1

/-- The open parameter BASE, the address of the register block (10_state.md section 5, 20_memory.md R73; log 10). -/
opaque Config.base : Nat

/-- The bus address of register `n` (20_memory.md R73). -/
def Config.regAddr (n : Nat) : Nat := Config.base + 4 * n

/-- The byte that location `addr` of a byte memory holds before anything is written to it, for the `draw`-th time the
memory's content became unspecified (93_implementation_defined.md U9, U10; log 3, log 5). -/
opaque Config.freeByte (space : ByteSpace) (draw addr : Nat) : Byte

/-- The same for the texels of BMP, as the packed 32-bit word (93_implementation_defined.md U9; log 3). -/
opaque Config.freeTexel (draw addr : Nat) : Word

end Sys2Proof
end

