-- ==== Sys2Proof/Syntax.lean ====
section
/-! DEFINITION. The instructions: one constructor per row of spec/opcode_table.json, each with the two operand fields of
the command word, MODE and SEL, also where the row ignores them (30_encoding.md R97, R100; log 7). -/

namespace Sys2Proof

/-- An instruction is a pair (operation, codec) (30_encoding.md R97) with the MODE and SEL fields of its word. -/
inductive Instr where
  /-- FMT.RGBA16, R122. -/
  | fmtRgba16 (mode : ModeField) (sel : SelField)
  /-- FMT.RGBA32, R123. -/
  | fmtRgba32 (mode : ModeField) (sel : SelField)
  /-- FMT.IA16, R124. -/
  | fmtIa16 (mode : ModeField) (sel : SelField)
  /-- FMT.IA8, R125. -/
  | fmtIa8 (mode : ModeField) (sel : SelField)
  /-- FMT.IA4, R126. -/
  | fmtIa4 (mode : ModeField) (sel : SelField)
  /-- FMT.I8, R127. -/
  | fmtI8 (mode : ModeField) (sel : SelField)
  /-- FMT.I4, R128. -/
  | fmtI4 (mode : ModeField) (sel : SelField)
  /-- FMT.CI8, R129. -/
  | fmtCi8 (mode : ModeField) (sel : SelField)
  /-- FMT.CI4, R130. -/
  | fmtCi4 (mode : ModeField) (sel : SelField)
  /-- FMT.ONEBPP, R131. -/
  | fmtOneBpp (mode : ModeField) (sel : SelField)
  /-- P2B.RGBA16, R132. -/
  | p2bRgba16 (mode : ModeField) (sel : SelField)
  /-- P2B.RGBA32, R133. -/
  | p2bRgba32 (mode : ModeField) (sel : SelField)
  /-- P2B.IA16, R134. -/
  | p2bIa16 (mode : ModeField) (sel : SelField)
  /-- P2B.IA8, R135. -/
  | p2bIa8 (mode : ModeField) (sel : SelField)
  /-- P2B.IA4, R136. -/
  | p2bIa4 (mode : ModeField) (sel : SelField)
  /-- P2B.I8, R137. -/
  | p2bI8 (mode : ModeField) (sel : SelField)
  /-- P2B.I4, R138. -/
  | p2bI4 (mode : ModeField) (sel : SelField)
  /-- P2B.CI8, R139. -/
  | p2bCi8 (mode : ModeField) (sel : SelField)
  /-- P2B.CI4, R140. -/
  | p2bCi4 (mode : ModeField) (sel : SelField)
  /-- P2B.ONEBPP, R141. -/
  | p2bOneBpp (mode : ModeField) (sel : SelField)
  /-- DECPX.RGBA16, R160. -/
  | decpxRgba16 (mode : ModeField) (sel : SelField)
  /-- DECPX.RGBA32, R161. -/
  | decpxRgba32 (mode : ModeField) (sel : SelField)
  /-- DECPX.IA16, R162. -/
  | decpxIa16 (mode : ModeField) (sel : SelField)
  /-- DECPX.IA8, R163. -/
  | decpxIa8 (mode : ModeField) (sel : SelField)
  /-- DECPX.IA4, R164. -/
  | decpxIa4 (mode : ModeField) (sel : SelField)
  /-- DECPX.I8, R165. -/
  | decpxI8 (mode : ModeField) (sel : SelField)
  /-- DECPX.I4, R166. -/
  | decpxI4 (mode : ModeField) (sel : SelField)
  /-- DECPX.CI8, R167. -/
  | decpxCi8 (mode : ModeField) (sel : SelField)
  /-- DECPX.CI4, R168. -/
  | decpxCi4 (mode : ModeField) (sel : SelField)
  /-- DECPX.ONEBPP, R169. -/
  | decpxOneBpp (mode : ModeField) (sel : SelField)
  /-- DECRGN.RGBA16, R195. -/
  | decrgnRgba16 (mode : ModeField) (sel : SelField)
  /-- DECRGN.RGBA32, R196. -/
  | decrgnRgba32 (mode : ModeField) (sel : SelField)
  /-- DECRGN.IA16, R197. -/
  | decrgnIa16 (mode : ModeField) (sel : SelField)
  /-- DECRGN.IA8, R198. -/
  | decrgnIa8 (mode : ModeField) (sel : SelField)
  /-- DECRGN.IA4, R199. -/
  | decrgnIa4 (mode : ModeField) (sel : SelField)
  /-- DECRGN.I8, R200. -/
  | decrgnI8 (mode : ModeField) (sel : SelField)
  /-- DECRGN.I4, R201. -/
  | decrgnI4 (mode : ModeField) (sel : SelField)
  /-- DECRGN.CI8, R202. -/
  | decrgnCi8 (mode : ModeField) (sel : SelField)
  /-- DECRGN.CI4, R203. -/
  | decrgnCi4 (mode : ModeField) (sel : SelField)
  /-- DECRGN.ONEBPP, R204. -/
  | decrgnOneBpp (mode : ModeField) (sel : SelField)
  /-- ENC.RGBA16, R243. -/
  | encRgba16 (mode : ModeField) (sel : SelField)
  /-- ENC.RGBA32, R244. -/
  | encRgba32 (mode : ModeField) (sel : SelField)
  /-- ENC.IA16, R245. -/
  | encIa16 (mode : ModeField) (sel : SelField)
  /-- ENC.IA8, R246. -/
  | encIa8 (mode : ModeField) (sel : SelField)
  /-- ENC.IA4, R247. -/
  | encIa4 (mode : ModeField) (sel : SelField)
  /-- ENC.I8, R248. -/
  | encI8 (mode : ModeField) (sel : SelField)
  /-- ENC.I4, R249. -/
  | encI4 (mode : ModeField) (sel : SelField)
  /-- ENC.CI8, R250. -/
  | encCi8 (mode : ModeField) (sel : SelField)
  /-- ENC.CI4, R251. -/
  | encCi4 (mode : ModeField) (sel : SelField)
  /-- ENC.ONEBPP, R252. -/
  | encOneBpp (mode : ModeField) (sel : SelField)
  deriving DecidableEq, Repr

/-- The operation of an instruction (30_encoding.md R91). -/
def Instr.op : Instr → Op
  | .fmtRgba16 _ _ => .fmt
  | .fmtRgba32 _ _ => .fmt
  | .fmtIa16 _ _ => .fmt
  | .fmtIa8 _ _ => .fmt
  | .fmtIa4 _ _ => .fmt
  | .fmtI8 _ _ => .fmt
  | .fmtI4 _ _ => .fmt
  | .fmtCi8 _ _ => .fmt
  | .fmtCi4 _ _ => .fmt
  | .fmtOneBpp _ _ => .fmt
  | .p2bRgba16 _ _ => .p2b
  | .p2bRgba32 _ _ => .p2b
  | .p2bIa16 _ _ => .p2b
  | .p2bIa8 _ _ => .p2b
  | .p2bIa4 _ _ => .p2b
  | .p2bI8 _ _ => .p2b
  | .p2bI4 _ _ => .p2b
  | .p2bCi8 _ _ => .p2b
  | .p2bCi4 _ _ => .p2b
  | .p2bOneBpp _ _ => .p2b
  | .decpxRgba16 _ _ => .decpx
  | .decpxRgba32 _ _ => .decpx
  | .decpxIa16 _ _ => .decpx
  | .decpxIa8 _ _ => .decpx
  | .decpxIa4 _ _ => .decpx
  | .decpxI8 _ _ => .decpx
  | .decpxI4 _ _ => .decpx
  | .decpxCi8 _ _ => .decpx
  | .decpxCi4 _ _ => .decpx
  | .decpxOneBpp _ _ => .decpx
  | .decrgnRgba16 _ _ => .decrgn
  | .decrgnRgba32 _ _ => .decrgn
  | .decrgnIa16 _ _ => .decrgn
  | .decrgnIa8 _ _ => .decrgn
  | .decrgnIa4 _ _ => .decrgn
  | .decrgnI8 _ _ => .decrgn
  | .decrgnI4 _ _ => .decrgn
  | .decrgnCi8 _ _ => .decrgn
  | .decrgnCi4 _ _ => .decrgn
  | .decrgnOneBpp _ _ => .decrgn
  | .encRgba16 _ _ => .enc
  | .encRgba32 _ _ => .enc
  | .encIa16 _ _ => .enc
  | .encIa8 _ _ => .enc
  | .encIa4 _ _ => .enc
  | .encI8 _ _ => .enc
  | .encI4 _ _ => .enc
  | .encCi8 _ _ => .enc
  | .encCi4 _ _ => .enc
  | .encOneBpp _ _ => .enc

/-- The codec of an instruction (30_encoding.md R92). -/
def Instr.codec : Instr → Codec
  | .fmtRgba16 _ _ => .rgba16
  | .fmtRgba32 _ _ => .rgba32
  | .fmtIa16 _ _ => .ia16
  | .fmtIa8 _ _ => .ia8
  | .fmtIa4 _ _ => .ia4
  | .fmtI8 _ _ => .i8
  | .fmtI4 _ _ => .i4
  | .fmtCi8 _ _ => .ci8
  | .fmtCi4 _ _ => .ci4
  | .fmtOneBpp _ _ => .oneBpp
  | .p2bRgba16 _ _ => .rgba16
  | .p2bRgba32 _ _ => .rgba32
  | .p2bIa16 _ _ => .ia16
  | .p2bIa8 _ _ => .ia8
  | .p2bIa4 _ _ => .ia4
  | .p2bI8 _ _ => .i8
  | .p2bI4 _ _ => .i4
  | .p2bCi8 _ _ => .ci8
  | .p2bCi4 _ _ => .ci4
  | .p2bOneBpp _ _ => .oneBpp
  | .decpxRgba16 _ _ => .rgba16
  | .decpxRgba32 _ _ => .rgba32
  | .decpxIa16 _ _ => .ia16
  | .decpxIa8 _ _ => .ia8
  | .decpxIa4 _ _ => .ia4
  | .decpxI8 _ _ => .i8
  | .decpxI4 _ _ => .i4
  | .decpxCi8 _ _ => .ci8
  | .decpxCi4 _ _ => .ci4
  | .decpxOneBpp _ _ => .oneBpp
  | .decrgnRgba16 _ _ => .rgba16
  | .decrgnRgba32 _ _ => .rgba32
  | .decrgnIa16 _ _ => .ia16
  | .decrgnIa8 _ _ => .ia8
  | .decrgnIa4 _ _ => .ia4
  | .decrgnI8 _ _ => .i8
  | .decrgnI4 _ _ => .i4
  | .decrgnCi8 _ _ => .ci8
  | .decrgnCi4 _ _ => .ci4
  | .decrgnOneBpp _ _ => .oneBpp
  | .encRgba16 _ _ => .rgba16
  | .encRgba32 _ _ => .rgba32
  | .encIa16 _ _ => .ia16
  | .encIa8 _ _ => .ia8
  | .encIa4 _ _ => .ia4
  | .encI8 _ _ => .i8
  | .encI4 _ _ => .i4
  | .encCi8 _ _ => .ci8
  | .encCi4 _ _ => .ci4
  | .encOneBpp _ _ => .oneBpp

/-- The MODE field of an instruction's word (30_encoding.md R93). -/
def Instr.mode : Instr → ModeField
  | .fmtRgba16 m _ => m
  | .fmtRgba32 m _ => m
  | .fmtIa16 m _ => m
  | .fmtIa8 m _ => m
  | .fmtIa4 m _ => m
  | .fmtI8 m _ => m
  | .fmtI4 m _ => m
  | .fmtCi8 m _ => m
  | .fmtCi4 m _ => m
  | .fmtOneBpp m _ => m
  | .p2bRgba16 m _ => m
  | .p2bRgba32 m _ => m
  | .p2bIa16 m _ => m
  | .p2bIa8 m _ => m
  | .p2bIa4 m _ => m
  | .p2bI8 m _ => m
  | .p2bI4 m _ => m
  | .p2bCi8 m _ => m
  | .p2bCi4 m _ => m
  | .p2bOneBpp m _ => m
  | .decpxRgba16 m _ => m
  | .decpxRgba32 m _ => m
  | .decpxIa16 m _ => m
  | .decpxIa8 m _ => m
  | .decpxIa4 m _ => m
  | .decpxI8 m _ => m
  | .decpxI4 m _ => m
  | .decpxCi8 m _ => m
  | .decpxCi4 m _ => m
  | .decpxOneBpp m _ => m
  | .decrgnRgba16 m _ => m
  | .decrgnRgba32 m _ => m
  | .decrgnIa16 m _ => m
  | .decrgnIa8 m _ => m
  | .decrgnIa4 m _ => m
  | .decrgnI8 m _ => m
  | .decrgnI4 m _ => m
  | .decrgnCi8 m _ => m
  | .decrgnCi4 m _ => m
  | .decrgnOneBpp m _ => m
  | .encRgba16 m _ => m
  | .encRgba32 m _ => m
  | .encIa16 m _ => m
  | .encIa8 m _ => m
  | .encIa4 m _ => m
  | .encI8 m _ => m
  | .encI4 m _ => m
  | .encCi8 m _ => m
  | .encCi4 m _ => m
  | .encOneBpp m _ => m

/-- The SEL field of an instruction's word (30_encoding.md R94). -/
def Instr.sel : Instr → SelField
  | .fmtRgba16 _ q => q
  | .fmtRgba32 _ q => q
  | .fmtIa16 _ q => q
  | .fmtIa8 _ q => q
  | .fmtIa4 _ q => q
  | .fmtI8 _ q => q
  | .fmtI4 _ q => q
  | .fmtCi8 _ q => q
  | .fmtCi4 _ q => q
  | .fmtOneBpp _ q => q
  | .p2bRgba16 _ q => q
  | .p2bRgba32 _ q => q
  | .p2bIa16 _ q => q
  | .p2bIa8 _ q => q
  | .p2bIa4 _ q => q
  | .p2bI8 _ q => q
  | .p2bI4 _ q => q
  | .p2bCi8 _ q => q
  | .p2bCi4 _ q => q
  | .p2bOneBpp _ q => q
  | .decpxRgba16 _ q => q
  | .decpxRgba32 _ q => q
  | .decpxIa16 _ q => q
  | .decpxIa8 _ q => q
  | .decpxIa4 _ q => q
  | .decpxI8 _ q => q
  | .decpxI4 _ q => q
  | .decpxCi8 _ q => q
  | .decpxCi4 _ q => q
  | .decpxOneBpp _ q => q
  | .decrgnRgba16 _ q => q
  | .decrgnRgba32 _ q => q
  | .decrgnIa16 _ q => q
  | .decrgnIa8 _ q => q
  | .decrgnIa4 _ q => q
  | .decrgnI8 _ q => q
  | .decrgnI4 _ q => q
  | .decrgnCi8 _ q => q
  | .decrgnCi4 _ q => q
  | .decrgnOneBpp _ q => q
  | .encRgba16 _ q => q
  | .encRgba32 _ q => q
  | .encIa16 _ q => q
  | .encIa8 _ q => q
  | .encIa4 _ q => q
  | .encI8 _ q => q
  | .encI4 _ q => q
  | .encCi8 _ q => q
  | .encCi4 _ q => q
  | .encOneBpp _ q => q

end Sys2Proof
end

