-- ==== Sys2Proof/WellFormed.lean ====
section
/-! DEFINITION. Which instructions the spec gives a meaning at all: the reserved values of MODE and SEL, where they are
read (30_encoding.md R99 c, d). -/

namespace Sys2Proof

/-- Why an instruction is not well formed. -/
inductive Defect where
  /-- MODE = 3 in DECPX or DECRGN of I8 or I4 (30_encoding.md R99 c, U2). -/
  | reservedMode
  /-- SEL of 2 or more in DECPX of IA4, I4 or CI4 (30_encoding.md R99 d, U3). -/
  | reservedSelector
  deriving DecidableEq, Repr

/-- The check on MODE: the tag is one of the three modes (30_encoding.md R99 c). -/
def modeDefect : ModeField → Option Defect
  | some _ => none
  | none => some .reservedMode

/-- The check on SEL of a nibble-packed codec: the selector is 0 or 1 (30_encoding.md R99 d). -/
def nibbleDefect (sel : SelField) : Option Defect :=
  if sel.toNat ≤ 1 then none else some .reservedSelector

/-- What is wrong with an instruction, if anything. A field that an instruction ignores is never wrong
(30_encoding.md R100). -/
def Instr.defect : Instr → Option Defect
  | .fmtRgba16 _ _ => none
  | .fmtRgba32 _ _ => none
  | .fmtIa16 _ _ => none
  | .fmtIa8 _ _ => none
  | .fmtIa4 _ _ => none
  | .fmtI8 _ _ => none
  | .fmtI4 _ _ => none
  | .fmtCi8 _ _ => none
  | .fmtCi4 _ _ => none
  | .fmtOneBpp _ _ => none
  | .p2bRgba16 _ _ => none
  | .p2bRgba32 _ _ => none
  | .p2bIa16 _ _ => none
  | .p2bIa8 _ _ => none
  | .p2bIa4 _ _ => none
  | .p2bI8 _ _ => none
  | .p2bI4 _ _ => none
  | .p2bCi8 _ _ => none
  | .p2bCi4 _ _ => none
  | .p2bOneBpp _ _ => none
  | .decpxRgba16 _ _ => none
  | .decpxRgba32 _ _ => none
  | .decpxIa16 _ _ => none
  | .decpxIa8 _ _ => none
  | .decpxIa4 _ q => nibbleDefect q
  | .decpxI8 m _ => modeDefect m
  | .decpxI4 m q => (modeDefect m).or (nibbleDefect q)
  | .decpxCi8 _ _ => none
  | .decpxCi4 _ q => nibbleDefect q
  | .decpxOneBpp _ _ => none
  | .decrgnRgba16 _ _ => none
  | .decrgnRgba32 _ _ => none
  | .decrgnIa16 _ _ => none
  | .decrgnIa8 _ _ => none
  | .decrgnIa4 _ _ => none
  | .decrgnI8 m _ => modeDefect m
  | .decrgnI4 m _ => modeDefect m
  | .decrgnCi8 _ _ => none
  | .decrgnCi4 _ _ => none
  | .decrgnOneBpp _ _ => none
  | .encRgba16 _ _ => none
  | .encRgba32 _ _ => none
  | .encIa16 _ _ => none
  | .encIa8 _ _ => none
  | .encIa4 _ _ => none
  | .encI8 _ _ => none
  | .encI4 _ _ => none
  | .encCi8 _ _ => none
  | .encCi4 _ _ => none
  | .encOneBpp _ _ => none

/-- A well-formed instruction (30_encoding.md R99). -/
abbrev Instr.wf (i : Instr) : Prop := i.defect = none

end Sys2Proof
end

