-- ==== Sys2Proof/Decode.lean ====
section
/-! DEFINITION. Command words: the decoder, total on all 32-bit words, in the order of checks of 30_encoding.md R96, and
the encoder, from the same tables. -/

namespace Sys2Proof

/-- Why a command word is reserved (30_encoding.md R99). -/
inductive Reserved where
  /-- Bits 31:13 are not all zero (R99 a, U1). -/
  | bits
  /-- OP is 0 or 6 to 15 (R99 b, U1). -/
  | op
  /-- MODE = 3 where MODE is read (R99 c, U2). -/
  | mode
  /-- SEL of 2 or more in DECPX of a nibble-packed codec (R99 d, U3). -/
  | selector
  deriving DecidableEq, Repr

/-- What a command word is (30_encoding.md R96 to R99). -/
inductive Decoded where
  /-- An instruction of the opcode table. -/
  | instr (i : Instr)
  /-- A legal OP and zero reserved bits with CODEC 10 to 15 (30_encoding.md R98). -/
  | invalidCodec
  /-- A reserved word (30_encoding.md R99). -/
  | reserved (r : Reserved)
  deriving DecidableEq, Repr

/-- The number of an operation (30_encoding.md R91). -/
def Op.tag : Op → BitVec 4
  | .fmt => 1
  | .p2b => 2
  | .decpx => 3
  | .decrgn => 4
  | .enc => 5

/-- The operation with a given number; 0 and 6 to 15 are reserved (30_encoding.md R91). -/
def Op.ofTag (t : BitVec 4) : Option Op :=
  match t.toNat with
  | 1 => some .fmt
  | 2 => some .p2b
  | 3 => some .decpx
  | 4 => some .decrgn
  | 5 => some .enc
  | _ => none

/-- The number of a codec (30_encoding.md R92). -/
def Codec.tag : Codec → BitVec 4
  | .rgba16 => 0
  | .rgba32 => 1
  | .ia16 => 2
  | .ia8 => 3
  | .ia4 => 4
  | .i8 => 5
  | .i4 => 6
  | .ci8 => 7
  | .ci4 => 8
  | .oneBpp => 9

/-- The codec with a given number; 10 to 15 are no codec (30_encoding.md R92). -/
def Codec.ofTag (t : BitVec 4) : Option Codec :=
  match t.toNat with
  | 0 => some .rgba16
  | 1 => some .rgba32
  | 2 => some .ia16
  | 3 => some .ia8
  | 4 => some .ia4
  | 5 => some .i8
  | 6 => some .i4
  | 7 => some .ci8
  | 8 => some .ci4
  | 9 => some .oneBpp
  | _ => none

/-- The number of a MODE field (30_encoding.md R93). -/
def modeTag : ModeField → BitVec 2
  | some .copyIntensity => 0
  | some .binary => 1
  | some .full => 2
  | none => 3

/-- The MODE field with a given number; 3 is reserved (30_encoding.md R93). -/
def modeOfTag (t : BitVec 2) : ModeField :=
  match t.toNat with
  | 0 => some .copyIntensity
  | 1 => some .binary
  | 2 => some .full
  | _ => none

/-- The row of the opcode map for an operation and a codec (30_encoding.md R97). -/
def Instr.ofParts (op : Op) (c : Codec) (m : ModeField) (q : SelField) : Instr :=
  match op, c with
  | .fmt, .rgba16 => .fmtRgba16 m q
  | .fmt, .rgba32 => .fmtRgba32 m q
  | .fmt, .ia16 => .fmtIa16 m q
  | .fmt, .ia8 => .fmtIa8 m q
  | .fmt, .ia4 => .fmtIa4 m q
  | .fmt, .i8 => .fmtI8 m q
  | .fmt, .i4 => .fmtI4 m q
  | .fmt, .ci8 => .fmtCi8 m q
  | .fmt, .ci4 => .fmtCi4 m q
  | .fmt, .oneBpp => .fmtOneBpp m q
  | .p2b, .rgba16 => .p2bRgba16 m q
  | .p2b, .rgba32 => .p2bRgba32 m q
  | .p2b, .ia16 => .p2bIa16 m q
  | .p2b, .ia8 => .p2bIa8 m q
  | .p2b, .ia4 => .p2bIa4 m q
  | .p2b, .i8 => .p2bI8 m q
  | .p2b, .i4 => .p2bI4 m q
  | .p2b, .ci8 => .p2bCi8 m q
  | .p2b, .ci4 => .p2bCi4 m q
  | .p2b, .oneBpp => .p2bOneBpp m q
  | .decpx, .rgba16 => .decpxRgba16 m q
  | .decpx, .rgba32 => .decpxRgba32 m q
  | .decpx, .ia16 => .decpxIa16 m q
  | .decpx, .ia8 => .decpxIa8 m q
  | .decpx, .ia4 => .decpxIa4 m q
  | .decpx, .i8 => .decpxI8 m q
  | .decpx, .i4 => .decpxI4 m q
  | .decpx, .ci8 => .decpxCi8 m q
  | .decpx, .ci4 => .decpxCi4 m q
  | .decpx, .oneBpp => .decpxOneBpp m q
  | .decrgn, .rgba16 => .decrgnRgba16 m q
  | .decrgn, .rgba32 => .decrgnRgba32 m q
  | .decrgn, .ia16 => .decrgnIa16 m q
  | .decrgn, .ia8 => .decrgnIa8 m q
  | .decrgn, .ia4 => .decrgnIa4 m q
  | .decrgn, .i8 => .decrgnI8 m q
  | .decrgn, .i4 => .decrgnI4 m q
  | .decrgn, .ci8 => .decrgnCi8 m q
  | .decrgn, .ci4 => .decrgnCi4 m q
  | .decrgn, .oneBpp => .decrgnOneBpp m q
  | .enc, .rgba16 => .encRgba16 m q
  | .enc, .rgba32 => .encRgba32 m q
  | .enc, .ia16 => .encIa16 m q
  | .enc, .ia8 => .encIa8 m q
  | .enc, .ia4 => .encIa4 m q
  | .enc, .i8 => .encI8 m q
  | .enc, .i4 => .encI4 m q
  | .enc, .ci8 => .encCi8 m q
  | .enc, .ci4 => .encCi4 m q
  | .enc, .oneBpp => .encOneBpp m q

/-- A well-formed instruction decodes to itself, an ill-formed one is a reserved word (30_encoding.md R96 step 3,
R99 c, d). -/
def checkDefect (i : Instr) : Decoded :=
  match i.defect with
  | none => .instr i
  | some .reservedMode => .reserved .mode
  | some .reservedSelector => .reserved .selector

/-- Decode a command word: reserved bits and OP first, then the codec tag, then the reserved operand values
(30_encoding.md R90, R96). -/
def decode (w : Word) : Decoded :=
  if w.extractLsb' 13 19 ≠ 0#19 then .reserved .bits
  else
    match Op.ofTag (w.extractLsb' 0 4) with
    | none => .reserved .op
    | some op =>
      match Codec.ofTag (w.extractLsb' 4 4) with
      | none => .invalidCodec
      | some c => checkDefect (Instr.ofParts op c (modeOfTag (w.extractLsb' 8 2)) (w.extractLsb' 10 3))

/-- The command word of an instruction: `OP | CODEC<<4 | MODE<<8 | SEL<<10` (30_encoding.md R90). -/
def encode (i : Instr) : Word :=
  0#19 ++ i.sel ++ modeTag i.mode ++ i.codec.tag ++ i.op.tag

/-- The word the opcode table's `nbits` low bits `w` stand for; a command word is taken by value, so there is no byte
order to apply (30_encoding.md R90, 20_memory.md R77). -/
def tableWord (nbits w : Nat) : Word := BitVec.ofNat 32 (w % 2 ^ nbits)

/-- The instruction the decoder reads from a row of the opcode table, `none` where it gives none. -/
def decodeTableWord (nbits w : Nat) : Option Instr :=
  match decode (tableWord nbits w) with
  | .instr i => some i
  | .invalidCodec => none
  | .reserved _ => none

end Sys2Proof
end

