-- ==== Sys2Proof/Machine/State.lean ====
section
/-! DEFINITION. The state of one engine and its host, the reasons a step can stop, and the state after reset. -/

namespace Sys2Proof.Machine

/-- One memory, as plain data: the locations written since its content last became unspecified, by rising address
(`Memory.wf`), and the number of that draw. An unlisted location holds no written value and reads as a free value of
the draw (93_implementation_defined.md U9, U10; log 3, log 5). A `Memory Byte` is a list of `Host.Cell`. -/
structure Memory (α : Type) where
  draw : Nat
  cells : List (Nat × α)
  deriving DecidableEq, Repr

/-- One access of the host, or a reset (30_encoding.md R103, 20_memory.md R72, 70_reset_and_hazards.md R310). A write of
register 0 is a command (10_state.md R24). -/
inductive HostOp where
  /-- `WR`, and `CMD` for register 0. -/
  | writeReg (n : Nat) (v : Word)
  /-- `RD`. -/
  | readReg (n : Nat)
  /-- `ST` to a byte memory. -/
  | writeByte (sp : ByteSpace) (addr : Nat) (v : Byte)
  /-- `LD` from a byte memory. -/
  | readByte (sp : ByteSpace) (addr : Nat)
  /-- `ST BMP[t]`, one Color as a 32-bit word. -/
  | writeTexel (addr : Nat) (v : Word)
  /-- `LD BMP[t]`. -/
  | readTexel (addr : Nat)
  /-- The platform resets the engine. -/
  | reset
  deriving DecidableEq, Repr

/-- The engine's registers and memories (10_state.md R20), the capacities that fix its memories, and the host. CMD
holds no state (10_state.md R24). -/
structure State where
  /-- STATUS, R25: EXH in bit 2, ERR in bits 1:0. -/
  status : BitVec 3
  /-- OFFSET, R26. -/
  offset : Word
  /-- WIDTH, R27. -/
  width : BitVec 15
  /-- HEIGHT, R28. -/
  height : BitVec 15
  /-- PIXCOUNT, R29. -/
  pixCount : BitVec 30
  /-- SRCLEN, R30. -/
  srcLen : Word
  /-- PALLEN, R31. -/
  palLen : Word
  /-- COLOR, R32. -/
  color : Word
  /-- BYTECOUNT, R33. -/
  byteCount : Word
  /-- FMTINFO, R34: NEEDPAL in bit 3, CLASS in bits 2:0. -/
  fmtInfo : BitVec 4
  /-- OUTLEN, R35. -/
  outLen : Word
  /-- OPALLEN, R36. -/
  opalLen : BitVec 10
  /-- PCOUNT, R37. -/
  pCount : BitVec 9
  /-- EXHCNT, R38. -/
  exhCnt : BitVec 30
  /-- SRC, R40. -/
  src : Memory Byte
  /-- PAL, R41. -/
  pal : Memory Byte
  /-- BMP, R42. -/
  bmp : Memory Color
  /-- OUT, R43. -/
  out : Memory Byte
  /-- OPAL, R44. -/
  opal : Memory Byte
  /-- SRC_CAP, PAL_CAP, BMP_CAP of this engine; no step changes them (log 2). -/
  caps : Caps
  /-- The host's accesses still to come, oldest first (20_memory.md R74; log 1). -/
  host : List HostOp
  /-- What the last host read returned (log 4). -/
  hostData : Word
  deriving DecidableEq, Repr

/-- The machine's faults: none. The spec treats no input as a fault (93_implementation_defined.md, "No item is treated
as `fault`"); its two error conditions are written to STATUS and the machine goes on (60_exceptions.md R280). -/
inductive Fault where
  deriving DecidableEq, Repr

/-- Why a step is refused. All but `notModelled` are the spec's own refusals, inputs it gives no outcome
(60_exceptions.md R284, 93_implementation_defined.md U1 to U8); each is safe: nothing can be proved of a run through
it (log 6). -/
inductive Refusal where
  /-- Raised by `exec` alone, for an instruction without a meaning: none is left. Safe. -/
  | notModelled (mnemonic : String)
  /-- Raised by a write of a reserved command word to CMD: bits 31:13 not zero or OP reserved (U1), or an ill-formed
  instruction (U2, U3). Safe. -/
  | reservedWord (r : Reserved)
  /-- Raised by `exec` of DECPX and DECRGN of I8 and I4 with MODE = 3 (U2); the decoder refuses their words before.
  Safe. -/
  | reservedMode
  /-- Raised by `exec` of DECPX of IA4, I4 and CI4 with SEL of 2 or more (U3); the decoder refuses their words before.
  Safe. -/
  | reservedSelector
  /-- Raised by DECPX and DECRGN of CI8 and CI4: a palette entry is not wholly below PALLEN (U4). Safe. -/
  | paletteBounds
  /-- Raised by DECRGN and ENC: WIDTH x HEIGHT exceeds BMP_CAP (U5). Safe. -/
  | bitmapCapacity
  /-- Raised by DECPX and DECRGN: SRCLEN exceeds SRC_CAP (U6). Safe. -/
  | sourceCapacity
  /-- Raised by DECPX and DECRGN of CI8 and CI4: PALLEN exceeds PAL_CAP (U6). Safe. -/
  | paletteCapacity
  /-- Raised by a host access to a memory at or beyond its capacity (U7). Safe. -/
  | hostAddress
  /-- Raised by DECPX: the texel is not wholly below SRCLEN (U8). Safe. -/
  | sourceBounds
  deriving DecidableEq, Repr

/-- A memory with nothing written, at its first draw. -/
def Memory.unwritten {α : Type} : Memory α := { draw := 0, cells := [] }

/-- The machine right after reset (10_state.md R47, 70_reset_and_hazards.md R310): every register 0, nothing written to
any memory, idle. The capacities are uninterpreted (log 2); the host has issued nothing (log 1) and has read nothing
(log 4). -/
def State.reset : State where
  status := 0
  offset := 0
  width := 0
  height := 0
  pixCount := 0
  srcLen := 0
  palLen := 0
  color := 0
  byteCount := 0
  fmtInfo := 0
  outLen := 0
  opalLen := 0
  pCount := 0
  exhCnt := 0
  src := .unwritten
  pal := .unwritten
  bmp := .unwritten
  out := .unwritten
  opal := .unwritten
  caps := Config.caps
  host := []
  hostData := 0

end Sys2Proof.Machine
end

