-- ==== Sys2Proof/Machine/Ops.lean ====
section
/-! DEFINITION. The shared operations: reading and writing a memory, the named views of the five memories, loops over
pixels, Colors as words, and the one error report (InvalidCodec). -/

namespace Sys2Proof.Machine

/-! ### Loops -/

/-- `for i in 0 .. n-1`, ascending (00_scope.md section 5, 20_memory.md R75). -/
def ascending {σ : Type} (n : Nat) (f : Nat → σ → σ) (z : σ) : σ :=
  match n with
  | 0 => z
  | k + 1 => f k (ascending k f z)

/-- Whether a check holds for every `i` in `0 .. n-1`. -/
def allBelow (n : Nat) (p : Nat → Bool) : Bool :=
  match n with
  | 0 => true
  | k + 1 => allBelow k p && p k

/-- The first `i` in `0 .. n-1` that a check holds for. -/
def firstBelow (n : Nat) (p : Nat → Bool) : Option Nat :=
  match n with
  | 0 => none
  | k + 1 => (firstBelow k p).or (if p k then some k else none)

/-! ### Memories -/

/-- The value written to an address, if any. -/
def cellsGet {α : Type} (l : List (Nat × α)) (addr : Nat) : Option α :=
  match l with
  | [] => none
  | (k, v) :: rest => if k = addr then some v else cellsGet rest addr

/-- Write an address, keeping the list sorted. -/
def cellsSet {α : Type} (l : List (Nat × α)) (addr : Nat) (v : α) : List (Nat × α) :=
  match l with
  | [] => [(addr, v)]
  | (k, w) :: rest =>
    if addr < k then (addr, v) :: (k, w) :: rest
    else if addr = k then (addr, v) :: rest
    else (k, w) :: cellsSet rest addr v

/-- The canonical form of a memory: addresses strictly rising. An unlisted address holds no written value, so no entry
can equal what an unlisted address holds (log 5). -/
abbrev Memory.wf {α : Type} (m : Memory α) : Prop := m.cells.Pairwise fun c d => c.1 < d.1

/-- The value written to an address since the last draw, if any. -/
def Memory.written {α : Type} (m : Memory α) (addr : Nat) : Option α := cellsGet m.cells addr

/-- Read an address: the value written last, else the free value of this draw (20_memory.md R71,
93_implementation_defined.md U9). -/
def Memory.read {α : Type} (free : Nat → Nat → α) (m : Memory α) (addr : Nat) : α :=
  (m.written addr).getD (free m.draw addr)

/-- Write an address (20_memory.md R71). -/
def Memory.write {α : Type} (m : Memory α) (addr : Nat) (v : α) : Memory α :=
  { m with cells := cellsSet m.cells addr v }

/-- The content becomes unspecified: nothing is listed, and the free values are drawn anew
(93_implementation_defined.md U9, U10, U14). -/
def Memory.redraw {α : Type} (m : Memory α) : Memory α := { draw := m.draw + 1, cells := [] }

/-- A fresh buffer: locations `0 .. len-1` hold `v`, the rest is unspecified and drawn anew (43_encode.md R233, R241,
93_implementation_defined.md U10). -/
def Memory.fresh {α : Type} (m : Memory α) (len : Nat) (v : α) : Memory α :=
  { draw := m.draw + 1, cells := (List.range len).map fun a => (a, v) }

/-! ### Colors -/

/-- A Color as the 32-bit word `A<<24 | R<<16 | G<<8 | B` (10_state.md R32, R46). -/
def colorToWord (c : Color) : Word := c.a ++ c.r ++ c.g ++ c.b

/-- The Color a 32-bit word of the BMP port stands for (10_state.md R42, R46). -/
def colorOfWord (w : Word) : Color where
  a := w.extractLsb' 24 8
  r := w.extractLsb' 16 8
  g := w.extractLsb' 8 8
  b := w.extractLsb' 0 8

/-- A texel of BMP that nothing has written (93_implementation_defined.md U9). -/
def freeColor (draw addr : Nat) : Color := colorOfWord (Config.freeTexel draw addr)

/-! ### The memories of a state -/

/-- The byte memory a space names (20_memory.md R72). -/
def State.byteMem (s : State) : ByteSpace → Memory Byte
  | .src => s.src
  | .pal => s.pal
  | .out => s.out
  | .opal => s.opal

/-- `MemRead(S, a, 1)` (00_scope.md section 5). -/
def State.readByte (s : State) (sp : ByteSpace) (addr : Nat) : Byte :=
  (s.byteMem sp).read (Config.freeByte sp) addr

/-- `BMP[t]` (00_scope.md section 5, 10_state.md R42). -/
def State.readTexel (s : State) (t : Nat) : Color := s.bmp.read freeColor t

/-- Entry `j` of the output palette: bytes `2j` and `2j+1` of OPAL, high byte first (10_state.md R44). -/
def State.opalEntry (s : State) (j : Nat) : BitVec 16 := s.readByte .opal (2 * j) ++ s.readByte .opal (2 * j + 1)

/-- The capacity of a byte memory (10_state.md R40, R41, R43, R44). -/
def State.byteCap (s : State) : ByteSpace → Nat
  | .src => s.caps.srcCap
  | .pal => s.caps.palCap
  | .out => 4 * s.caps.bmpCap
  | .opal => 512

/-- `WIDTH * HEIGHT`, the number of pixels of a region or bitmap (42_decode_region.md R190, 43_encode.md R240). -/
def State.pixels (s : State) : Nat := s.width.toNat * s.height.toNat

/-! ### The error report -/

/-- InvalidCodec: `STATUS <- 1` and nothing else; no state is saved and control goes nowhere (60_exceptions.md R281,
R287; there is no return from it, R288). -/
def State.raiseInvalidCodec (s : State) : State := { s with status := 1 }

end Sys2Proof.Machine
end

