-- ==== Sys2Proof/Machine/Flags.lean ====
section
/-! DEFINITION. STATUS: its two fields, and what a command that is not refused leaves in it (10_state.md R23, R25). -/

namespace Sys2Proof.Machine

/-- STATUS.ERR, bits 1:0 (10_state.md R25). -/
def State.err (s : State) : BitVec 2 := s.status.extractLsb' 0 2

/-- STATUS.EXH, bit 2 (10_state.md R25). -/
def State.exh (s : State) : Bool := s.status.getLsbD 2

/-- STATUS of a command that completed without error and without exhaustion (30_encoding.md R96 step 4). -/
def statusOk : BitVec 3 := 0

/-- STATUS of an ENC that met palette exhaustion `exhausted` times: 4 if any, else 0 (43_encode.md R260). -/
def statusEnc (exhausted : Nat) : BitVec 3 := if 0 < exhausted then 4 else 0

end Sys2Proof.Machine
end

