-- ==== Sys2Proof/Machine/Operands.lean ====
section
/-! DEFINITION. The operand forms: what a codec says about its texels, where a texel lies and how it is taken from or put
into its byte, and the bounds an access must respect. -/

namespace Sys2Proof.Machine

/-! ### What a codec says about its texels -/

/-- The packing class of a codec (20_memory.md R64). -/
def packClass : Codec → PackClass
  | .rgba16 => .twoBytes
  | .rgba32 => .fourBytes
  | .ia16 => .twoBytes
  | .ia8 => .oneByte
  | .ia4 => .nibble
  | .i8 => .oneByte
  | .i4 => .nibble
  | .ci8 => .oneByte
  | .ci4 => .nibble
  | .oneBpp => .bit

/-- Whether a codec requires a palette to decode (30_encoding.md R92). -/
def needsPalette : Codec → Bool
  | .rgba16 => false
  | .rgba32 => false
  | .ia16 => false
  | .ia8 => false
  | .ia4 => false
  | .i8 => false
  | .i4 => false
  | .ci8 => true
  | .ci4 => true
  | .oneBpp => false

/-- Whether the decode of a codec reads MODE (41_decode_pixel.md R171). -/
def readsMode : Codec → Bool
  | .rgba16 => false
  | .rgba32 => false
  | .ia16 => false
  | .ia8 => false
  | .ia4 => false
  | .i8 => true
  | .i4 => true
  | .ci8 => false
  | .ci4 => false
  | .oneBpp => false

/-- `Need(codec)`: the bytes of SRC one texel's decode requires (20_memory.md R64). -/
def need (c : Codec) : Nat :=
  match packClass c with
  | .oneByte => 1
  | .twoBytes => 2
  | .fourBytes => 4
  | .nibble => 1
  | .bit => 1

/-- `P2B(codec, n)`: the bytes `n` texels occupy, packed classes rounded up (40_format_metadata.md R121). -/
def p2b (c : Codec) (n : Nat) : Nat :=
  match packClass c with
  | .oneByte => n
  | .twoBytes => 2 * n
  | .fourBytes => 4 * n
  | .nibble => (n + 1) / 2
  | .bit => (n + 7) / 8

/-- The byte address of the texel with linear index `idx`, the first part of `TexelAddr` (20_memory.md R65). -/
def texelAddr (c : Codec) (base idx : Nat) : Nat :=
  match packClass c with
  | .oneByte => base + idx * 1
  | .twoBytes => base + idx * 2
  | .fourBytes => base + idx * 4
  | .nibble => base + idx / 2
  | .bit => base + idx / 8

/-- The sub-byte selector of the texel with linear index `idx`, the second part of `TexelAddr` (20_memory.md R65). -/
def texelSel (c : Codec) (idx : Nat) : Nat :=
  match packClass c with
  | .oneByte => 0
  | .twoBytes => 0
  | .fourBytes => 0
  | .nibble => idx % 2
  | .bit => idx % 8

/-! ### Sub-byte texels -/

/-- `Nib(b, s)`: selector 0 is the high nibble, 1 the low one (41_decode_pixel.md R155, 20_memory.md R63). -/
def nib (b : Byte) (s : Nat) : BitVec 4 := if s = 0 then b.extractLsb' 4 4 else b.extractLsb' 0 4

/-- `Bit(b, s)`: bit `7 - s` of the byte (41_decode_pixel.md R155, 20_memory.md R62). -/
def bitOf (b : Byte) (s : Nat) : Bool := b.getLsbD (7 - s)

/-- `PutNibble`: a byte with the nibble of selector `s` replaced (43_encode.md R226). -/
def putNibble (old : Byte) (s : Nat) (n : BitVec 4) : Byte :=
  if s = 0 then (old &&& 0x0F#8) ||| (n.setWidth 8 <<< 4) else (old &&& 0xF0#8) ||| n.setWidth 8

/-- `PutBit`: a byte with the bit of selector `s` replaced (43_encode.md R227). -/
def putBit (old : Byte) (s : Nat) (t : Bool) : Byte :=
  (old &&& ~~~(1#8 <<< (7 - s))) ||| ((BitVec.ofBool t).setWidth 8 <<< (7 - s))

/-! ### Bounds -/

/-- A texel at byte address `addr` is in bounds of the source buffer (20_memory.md R67). -/
def State.inSource (s : State) (c : Codec) (addr : Nat) : Bool := addr + need c - 1 < s.srcLen.toNat

/-- Palette entry `k` lies wholly below PALLEN (20_memory.md R68). -/
def State.inPalette (s : State) (k : Nat) : Bool := 2 * k + 1 < s.palLen.toNat

/-- `MemRead(SRC, a + k, 1)`, the bytes of a texel at `a` (41_decode_pixel.md section 4). -/
def State.srcAt (s : State) (a k : Nat) : Byte := s.readByte .src (a + k)

end Sys2Proof.Machine
end

