-- ==== Sys2Proof/Machine/Texel.lean ====
section
/-! DEFINITION. One texel to a Color and back: the scalings, the two 16-bit layouts, and the ten unpack rules with their
dispatch. Every division truncates (00_scope.md R10). -/

namespace Sys2Proof.Machine

/-! ### Bit-depth expansion -/

/-- `up5` (41_decode_pixel.md R150). -/
def up5 (v : BitVec 5) : Byte := BitVec.ofNat 8 (v.toNat * 255 / 31)

/-- `up3` (41_decode_pixel.md R151). -/
def up3 (v : BitVec 3) : Byte := BitVec.ofNat 8 (v.toNat * 255 / 7)

/-- `up4` (41_decode_pixel.md R152). -/
def up4 (v : BitVec 4) : Byte := BitVec.ofNat 8 (v.toNat * 17)

/-- One bit to a channel: `255 * t` (41_decode_pixel.md R153, R164, R169). -/
def up1 (t : Bool) : Byte := if t then 255 else 0

/-! ### Bit-depth reduction -/

/-- `dn5` (43_encode.md R220). -/
def dn5 (v : Byte) : BitVec 5 := BitVec.ofNat 5 ((v.toNat + 4) * 31 / 255)

/-- `dn4` (43_encode.md R221). -/
def dn4 (v : Byte) : BitVec 4 := BitVec.ofNat 4 (v.toNat / 17)

/-- `dn3` (43_encode.md R222, 93_implementation_defined.md U12; log 11). -/
def dn3 (v : Byte) : BitVec 3 := BitVec.ofNat 3 (v.toNat / 36)

/-- `mean3`, the intensity of a Color (43_encode.md R223). -/
def mean3 (c : Color) : Byte := BitVec.ofNat 8 ((c.r.toNat + c.g.toNat + c.b.toNat) / 3)

/-- `bin1`, the 1-bit alpha (43_encode.md R224). -/
def bin1 (a : Byte) : Bool := decide (0 < a.toNat)

/-! ### The RGBA16 layout -/

/-- `Rgba16ToColor(byte0, byte1)` (41_decode_pixel.md R153). -/
def rgba16ToColor (byte0 byte1 : Byte) : Color :=
  let raw : BitVec 16 := byte0 ++ byte1
  { a := up1 (raw.getLsbD 0)
    r := up5 (raw.extractLsb' 11 5)
    g := up5 (raw.extractLsb' 6 5)
    b := up5 (raw.extractLsb' 1 5) }

/-- `ColorToRaw16(c)` (43_encode.md R225). -/
def colorToRaw16 (c : Color) : BitVec 16 := dn5 c.r ++ dn5 c.g ++ dn5 c.b ++ BitVec.ofBool (bin1 c.a)

/-- The byte of a 16-bit value at the lower address (20_memory.md R60). -/
def hiByte (v : BitVec 16) : Byte := v.extractLsb' 8 8

/-- The byte of a 16-bit value at the higher address (20_memory.md R60). -/
def loByte (v : BitVec 16) : Byte := v.extractLsb' 0 8

/-! ### Unpack rules -/

/-- `AlphaOf(mode, i)` (41_decode_pixel.md R154). -/
def alphaOf (m : AlphaMode) (i : Byte) : Byte :=
  match m with
  | .copyIntensity => i
  | .binary => if i = 0#8 then 0 else 255
  | .full => 255

/-- A grey Color with its own alpha. -/
def grey (alpha i : Byte) : Color := { a := alpha, r := i, g := i, b := i }

/-- The palette index of a CI8 or CI4 texel (41_decode_pixel.md R167, R168); no other codec has one. -/
def State.texelIndex (s : State) (c : Codec) (a sel : Nat) : Nat :=
  match packClass c with
  | .oneByte => (s.srcAt a 0).toNat
  | .twoBytes => (s.srcAt a 0).toNat
  | .fourBytes => (s.srcAt a 0).toNat
  | .nibble => (nib (s.srcAt a 0) sel).toNat
  | .bit => (s.srcAt a 0).toNat

/-- `PalColor(k)` for an entry that lies in the palette; the bound is part of the command's admission
(41_decode_pixel.md R156, R159, 42_decode_region.md R194). -/
def State.palColor (s : State) (k : Nat) : Color :=
  rgba16ToColor (s.readByte .pal (2 * k)) (s.readByte .pal (2 * k + 1))

/-- The RGBA16 texel at `a` (41_decode_pixel.md R160). -/
def State.texRgba16 (s : State) (a : Nat) : Color := rgba16ToColor (s.srcAt a 0) (s.srcAt a 1)

/-- The RGBA32 texel at `a`: R, G, B, A in order (41_decode_pixel.md R161). -/
def State.texRgba32 (s : State) (a : Nat) : Color :=
  { a := s.srcAt a 3, r := s.srcAt a 0, g := s.srcAt a 1, b := s.srcAt a 2 }

/-- The IA16 texel at `a` (41_decode_pixel.md R162). -/
def State.texIa16 (s : State) (a : Nat) : Color := grey (s.srcAt a 1) (s.srcAt a 0)

/-- The IA8 texel at `a` (41_decode_pixel.md R163). -/
def State.texIa8 (s : State) (a : Nat) : Color :=
  grey (up4 ((s.srcAt a 0).extractLsb' 0 4)) (up4 ((s.srcAt a 0).extractLsb' 4 4))

/-- The IA4 texel with selector `sel` at `a` (41_decode_pixel.md R164). -/
def State.texIa4 (s : State) (a sel : Nat) : Color :=
  let n := nib (s.srcAt a 0) sel
  grey (up1 (n.getLsbD 0)) (up3 (n.extractLsb' 1 3))

/-- The I8 texel at `a` (41_decode_pixel.md R165). -/
def State.texI8 (s : State) (m : AlphaMode) (a : Nat) : Color := grey (alphaOf m (s.srcAt a 0)) (s.srcAt a 0)

/-- The I4 texel with selector `sel` at `a` (41_decode_pixel.md R166). -/
def State.texI4 (s : State) (m : AlphaMode) (a sel : Nat) : Color :=
  let i := up4 (nib (s.srcAt a 0) sel)
  grey (alphaOf m i) i

/-- The CI8 texel at `a` (41_decode_pixel.md R167). -/
def State.texCi8 (s : State) (a : Nat) : Color := s.palColor (s.texelIndex .ci8 a 0)

/-- The CI4 texel with selector `sel` at `a` (41_decode_pixel.md R168). -/
def State.texCi4 (s : State) (a sel : Nat) : Color := s.palColor (s.texelIndex .ci4 a sel)

/-- The OneBPP texel with selector `sel` at `a` (41_decode_pixel.md R169). -/
def State.texOneBpp (s : State) (a sel : Nat) : Color :=
  let t := up1 (bitOf (s.srcAt a 0) sel)
  grey t t

/-- `DecodeTexel(codec, mode, a, sel)` (41_decode_pixel.md R157). It reads SRC, and PAL for CI8 and CI4. -/
def State.decodeTexel (s : State) (c : Codec) (m : AlphaMode) (a sel : Nat) : Color :=
  match c with
  | .rgba16 => s.texRgba16 a
  | .rgba32 => s.texRgba32 a
  | .ia16 => s.texIa16 a
  | .ia8 => s.texIa8 a
  | .ia4 => s.texIa4 a sel
  | .i8 => s.texI8 m a
  | .i4 => s.texI4 m a sel
  | .ci8 => s.texCi8 a
  | .ci4 => s.texCi4 a sel
  | .oneBpp => s.texOneBpp a sel

/-- The mode a decode uses. A codec that reads MODE is admitted only with one of the three modes, and a codec that does
not read it gets the same Color with every mode (30_encoding.md R99 c, R100; 41_decode_pixel.md R171; log 7). -/
def modeOf (m : ModeField) : AlphaMode := m.getD .copyIntensity

end Sys2Proof.Machine
end

