-- ==== Sys2Proof/Machine/Palette.lean ====
section
/-! DEFINITION. The buffers an encode builds, and the palette table builder of CI8 and CI4. -/

namespace Sys2Proof.Machine

/-- What one ENC builds: OUT, OPAL, and the counts that go to PCOUNT and EXHCNT, as natural numbers (00_scope.md R8).
It lives during the command only (10_state.md R45). -/
structure EncBuf where
  out : Memory Byte
  opal : Memory Byte
  pCount : Nat
  exhCnt : Nat
  deriving DecidableEq, Repr

/-- `MemRead(OUT, a, 1)` of the buffer under construction. -/
def EncBuf.readOut (e : EncBuf) (a : Nat) : Byte := e.out.read (Config.freeByte .out) a

/-- `MemWrite(OUT, a, 1, v)`. -/
def EncBuf.writeOut (e : EncBuf) (a : Nat) (v : Byte) : EncBuf := { e with out := e.out.write a v }

/-- `MemRead(OPAL, a, 1)` of the palette under construction. -/
def EncBuf.readOpal (e : EncBuf) (a : Nat) : Byte := e.opal.read (Config.freeByte .opal) a

/-- `MemWrite(OPAL, a, 1, v)`. -/
def EncBuf.writeOpal (e : EncBuf) (a : Nat) (v : Byte) : EncBuf := { e with opal := e.opal.write a v }

/-- `MemWrite(OUT, a, 2, v)`, high byte first (20_memory.md R60). -/
def EncBuf.writeOut16 (e : EncBuf) (a : Nat) (v : BitVec 16) : EncBuf :=
  (e.writeOut a (hiByte v)).writeOut (a + 1) (loByte v)

/-- Palette entry `j`, `MemRead(OPAL, 2*j, 2)`, high byte first (10_state.md R44). -/
def EncBuf.entry (e : EncBuf) (j : Nat) : BitVec 16 := e.readOpal (2 * j) ++ e.readOpal (2 * j + 1)

/-- `PalFind(v)` among the entries in use (43_encode.md R230). -/
def EncBuf.palFind (e : EncBuf) (v : BitVec 16) : Option Nat := firstBelow e.pCount fun j => e.entry j == v

/-- The index `PalAssign(v, cap)` returns (43_encode.md R231, R232). -/
def EncBuf.palIndex (e : EncBuf) (v : BitVec 16) (cap : Nat) : Nat :=
  match e.palFind v with
  | some j => j
  | none => if e.pCount < cap then e.pCount else 0

/-- What `PalAssign(v, cap)` does to the palette: append a new value while there is room, else count the exhaustion
(43_encode.md R231, R232). -/
def EncBuf.palAssign (e : EncBuf) (v : BitVec 16) (cap : Nat) : EncBuf :=
  match e.palFind v with
  | some _ => e
  | none =>
    if e.pCount < cap then
      { (e.writeOpal (2 * e.pCount) (hiByte v)).writeOpal (2 * e.pCount + 1) (loByte v) with pCount := e.pCount + 1 }
    else { e with exhCnt := e.exhCnt + 1 }

/-- The palette capacity in entries: 256 for CI8, 16 for CI4, none otherwise (43_encode.md R231, R233). -/
def palCapOf : Codec → Nat
  | .rgba16 => 0
  | .rgba32 => 0
  | .ia16 => 0
  | .ia8 => 0
  | .ia4 => 0
  | .i8 => 0
  | .i4 => 0
  | .ci8 => 256
  | .ci4 => 16
  | .oneBpp => 0

end Sys2Proof.Machine
end

