-- ==== Sys2Proof/Machine/Decpx.lean ====
section
/-! DEFINITION. DECPX: decode of one texel into COLOR (41_decode_pixel.md R158, R159, R160 to R169). -/

namespace Sys2Proof.Machine

/-- Why a DECPX is not admitted, if it is not (41_decode_pixel.md R159). Where several conditions fail, which one is
named is the model's choice (log 6). -/
def State.decpxRefusal (s : State) (c : Codec) (m : ModeField) (sel : SelField) : Option Refusal :=
  if readsMode c = true ∧ m = none then some .reservedMode
  else if packClass c = .nibble ∧ 1 < sel.toNat then some .reservedSelector
  else if s.caps.srcCap < s.srcLen.toNat then some .sourceCapacity
  else if s.inSource c s.offset.toNat = false then some .sourceBounds
  else if needsPalette c = true ∧ s.caps.palCap < s.palLen.toNat then some .paletteCapacity
  else if needsPalette c = true ∧ s.inPalette (s.texelIndex c s.offset.toNat sel.toNat) = false then
    some .paletteBounds
  else none

/-- The Color a DECPX yields: the texel at OFFSET with selector SEL (41_decode_pixel.md R158). -/
def State.decpxColor (s : State) (c : Codec) (m : ModeField) (sel : SelField) : Color :=
  s.decodeTexel c (modeOf m) s.offset.toNat sel.toNat

/-- What a DECPX writes: COLOR and STATUS (41_decode_pixel.md R158). -/
def State.putPixel (s : State) (c : Color) : State := { s with color := colorToWord c, status := statusOk }

/-- DECPX of any codec: COLOR and STATUS, once admitted (41_decode_pixel.md R158, R159). -/
def State.decpx (s : State) (c : Codec) (m : ModeField) (sel : SelField) : Host.Outcome State Fault Refusal :=
  match s.decpxRefusal c m sel with
  | some r => .refused r
  | none => .next (s.putPixel (s.decpxColor c m sel))

/-- DECPX.RGBA16 (41_decode_pixel.md R160). -/
def execDecpxRgba16 (m : ModeField) (sel : SelField) (s : State) : Host.Outcome State Fault Refusal := s.decpx .rgba16 m sel

/-- DECPX.RGBA32 (41_decode_pixel.md R161). -/
def execDecpxRgba32 (m : ModeField) (sel : SelField) (s : State) : Host.Outcome State Fault Refusal := s.decpx .rgba32 m sel

/-- DECPX.IA16 (41_decode_pixel.md R162). -/
def execDecpxIa16 (m : ModeField) (sel : SelField) (s : State) : Host.Outcome State Fault Refusal := s.decpx .ia16 m sel

/-- DECPX.IA8 (41_decode_pixel.md R163). -/
def execDecpxIa8 (m : ModeField) (sel : SelField) (s : State) : Host.Outcome State Fault Refusal := s.decpx .ia8 m sel

/-- DECPX.IA4 (41_decode_pixel.md R164). -/
def execDecpxIa4 (m : ModeField) (sel : SelField) (s : State) : Host.Outcome State Fault Refusal := s.decpx .ia4 m sel

/-- DECPX.I8 (41_decode_pixel.md R165). -/
def execDecpxI8 (m : ModeField) (sel : SelField) (s : State) : Host.Outcome State Fault Refusal := s.decpx .i8 m sel

/-- DECPX.I4 (41_decode_pixel.md R166). -/
def execDecpxI4 (m : ModeField) (sel : SelField) (s : State) : Host.Outcome State Fault Refusal := s.decpx .i4 m sel

/-- DECPX.CI8 (41_decode_pixel.md R167). -/
def execDecpxCi8 (m : ModeField) (sel : SelField) (s : State) : Host.Outcome State Fault Refusal := s.decpx .ci8 m sel

/-- DECPX.CI4 (41_decode_pixel.md R168). -/
def execDecpxCi4 (m : ModeField) (sel : SelField) (s : State) : Host.Outcome State Fault Refusal := s.decpx .ci4 m sel

/-- DECPX.ONEBPP (41_decode_pixel.md R169). -/
def execDecpxOneBpp (m : ModeField) (sel : SelField) (s : State) : Host.Outcome State Fault Refusal := s.decpx .oneBpp m sel

end Sys2Proof.Machine
end

