-- ==== Sys2Proof/Machine/Decrgn.lean ====
section
/-! DEFINITION. DECRGN: decode of a rectangular region into BMP (42_decode_region.md R190 to R204). -/

namespace Sys2Proof.Machine

/-- Texel `idx` of the region is in bounds of the source buffer (42_decode_region.md R190, R192). -/
def State.regionInSource (s : State) (c : Codec) (idx : Nat) : Bool :=
  s.inSource c (texelAddr c s.offset.toNat idx)

/-- If texel `idx` is in bounds of the source buffer, its palette entry is in the palette (42_decode_region.md R194). -/
def State.regionPaletteOk (s : State) (c : Codec) (idx : Nat) : Bool :=
  !s.regionInSource c idx || s.inPalette (s.texelIndex c (texelAddr c s.offset.toNat idx) (texelSel c idx))

/-- Why a DECRGN is not admitted, if it is not (42_decode_region.md R194). Where several conditions fail, which one is
named is the model's choice (log 6). -/
def State.decrgnRefusal (s : State) (c : Codec) (m : ModeField) : Option Refusal :=
  if readsMode c = true ∧ m = none then some .reservedMode
  else if s.caps.bmpCap < s.pixels then some .bitmapCapacity
  else if s.caps.srcCap < s.srcLen.toNat then some .sourceCapacity
  else if needsPalette c = true ∧ s.caps.palCap < s.palLen.toNat then some .paletteCapacity
  else if needsPalette c = true ∧ allBelow s.pixels (s.regionPaletteOk c) = false then some .paletteBounds
  else none

/-- The Color of texel `idx` of the region (42_decode_region.md R190). -/
def State.regionColor (s : State) (c : Codec) (m : ModeField) (idx : Nat) : Color :=
  s.decodeTexel c (modeOf m) (texelAddr c s.offset.toNat idx) (texelSel c idx)

/-- One round of the loop: write the texel if it is in bounds, else leave BMP alone (42_decode_region.md R190, R192,
R193). -/
def State.regionTexel (s : State) (c : Codec) (m : ModeField) (idx : Nat) (bmp : Memory Color) : Memory Color :=
  if s.regionInSource c idx = true then bmp.write idx (s.regionColor c m idx) else bmp

/-- What a DECRGN writes: BMP and STATUS (42_decode_region.md R190). -/
def State.putBitmap (s : State) (bmp : Memory Color) : State := { s with bmp := bmp, status := statusOk }

/-- DECRGN of any codec: BMP and STATUS, once admitted; SEL is ignored (42_decode_region.md R190, R194). -/
def State.decrgn (s : State) (c : Codec) (m : ModeField) : Host.Outcome State Fault Refusal :=
  match s.decrgnRefusal c m with
  | some r => .refused r
  | none => .next (s.putBitmap (ascending s.pixels (s.regionTexel c m) s.bmp))

/-- DECRGN.RGBA16 (42_decode_region.md R195). -/
def execDecrgnRgba16 (m : ModeField) (_ : SelField) (s : State) : Host.Outcome State Fault Refusal := s.decrgn .rgba16 m

/-- DECRGN.RGBA32 (42_decode_region.md R196). -/
def execDecrgnRgba32 (m : ModeField) (_ : SelField) (s : State) : Host.Outcome State Fault Refusal := s.decrgn .rgba32 m

/-- DECRGN.IA16 (42_decode_region.md R197). -/
def execDecrgnIa16 (m : ModeField) (_ : SelField) (s : State) : Host.Outcome State Fault Refusal := s.decrgn .ia16 m

/-- DECRGN.IA8 (42_decode_region.md R198). -/
def execDecrgnIa8 (m : ModeField) (_ : SelField) (s : State) : Host.Outcome State Fault Refusal := s.decrgn .ia8 m

/-- DECRGN.IA4 (42_decode_region.md R199). -/
def execDecrgnIa4 (m : ModeField) (_ : SelField) (s : State) : Host.Outcome State Fault Refusal := s.decrgn .ia4 m

/-- DECRGN.I8 (42_decode_region.md R200). -/
def execDecrgnI8 (m : ModeField) (_ : SelField) (s : State) : Host.Outcome State Fault Refusal := s.decrgn .i8 m

/-- DECRGN.I4 (42_decode_region.md R201). -/
def execDecrgnI4 (m : ModeField) (_ : SelField) (s : State) : Host.Outcome State Fault Refusal := s.decrgn .i4 m

/-- DECRGN.CI8 (42_decode_region.md R202). -/
def execDecrgnCi8 (m : ModeField) (_ : SelField) (s : State) : Host.Outcome State Fault Refusal := s.decrgn .ci8 m

/-- DECRGN.CI4 (42_decode_region.md R203). -/
def execDecrgnCi4 (m : ModeField) (_ : SelField) (s : State) : Host.Outcome State Fault Refusal := s.decrgn .ci4 m

/-- DECRGN.ONEBPP (42_decode_region.md R204). -/
def execDecrgnOneBpp (m : ModeField) (_ : SelField) (s : State) : Host.Outcome State Fault Refusal := s.decrgn .oneBpp m

end Sys2Proof.Machine
end

