-- ==== Sys2Proof/Machine/Enc.lean ====
section
/-! DEFINITION. ENC: encode of a bitmap into OUT, with the palette of CI8 and CI4 in OPAL (43_encode.md R240 to R252,
R260). MODE and SEL are ignored (R262). -/

namespace Sys2Proof.Machine

/-! ### `EncodeTexel`, one per codec: pixel `idx` of Color `c` -/

/-- A nibble-packed texel: `PutNibble` at its address (43_encode.md R226). -/
def EncBuf.putNibbleAt (e : EncBuf) (idx : Nat) (n : BitVec 4) : EncBuf :=
  e.writeOut (idx / 2) (putNibble (e.readOut (idx / 2)) (idx % 2) n)

/-- ENC.RGBA16 of one pixel (43_encode.md R243). -/
def EncBuf.encRgba16 (e : EncBuf) (idx : Nat) (c : Color) : EncBuf :=
  e.writeOut16 (texelAddr .rgba16 0 idx) (colorToRaw16 c)

/-- ENC.RGBA32 of one pixel: R, G, B, A in order (43_encode.md R244). -/
def EncBuf.encRgba32 (e : EncBuf) (idx : Nat) (c : Color) : EncBuf :=
  let a := texelAddr .rgba32 0 idx
  (((e.writeOut a c.r).writeOut (a + 1) c.g).writeOut (a + 2) c.b).writeOut (a + 3) c.a

/-- ENC.IA16 of one pixel (43_encode.md R245). -/
def EncBuf.encIa16 (e : EncBuf) (idx : Nat) (c : Color) : EncBuf :=
  (e.writeOut (texelAddr .ia16 0 idx) (mean3 c)).writeOut (texelAddr .ia16 0 idx + 1) c.a

/-- ENC.IA8 of one pixel: intensity in the high nibble (43_encode.md R246). -/
def EncBuf.encIa8 (e : EncBuf) (idx : Nat) (c : Color) : EncBuf :=
  e.writeOut (texelAddr .ia8 0 idx) (dn4 (mean3 c) ++ dn4 c.a)

/-- ENC.IA4 of one pixel: intensity in nibble bits 3:1, alpha in bit 0 (43_encode.md R247). -/
def EncBuf.encIa4 (e : EncBuf) (idx : Nat) (c : Color) : EncBuf :=
  e.putNibbleAt idx (dn3 (mean3 c) ++ BitVec.ofBool (bin1 c.a))

/-- ENC.I8 of one pixel (43_encode.md R248). -/
def EncBuf.encI8 (e : EncBuf) (idx : Nat) (c : Color) : EncBuf := e.writeOut (texelAddr .i8 0 idx) (mean3 c)

/-- ENC.I4 of one pixel (43_encode.md R249). -/
def EncBuf.encI4 (e : EncBuf) (idx : Nat) (c : Color) : EncBuf := e.putNibbleAt idx (dn4 (mean3 c))

/-- ENC.CI8 of one pixel: its palette index (43_encode.md R250). -/
def EncBuf.encCi8 (e : EncBuf) (idx : Nat) (c : Color) : EncBuf :=
  let v := colorToRaw16 c
  (e.palAssign v 256).writeOut (texelAddr .ci8 0 idx) (BitVec.ofNat 8 (e.palIndex v 256))

/-- ENC.CI4 of one pixel: its palette index, two to a byte (43_encode.md R251). -/
def EncBuf.encCi4 (e : EncBuf) (idx : Nat) (c : Color) : EncBuf :=
  let v := colorToRaw16 c
  (e.palAssign v 16).putNibbleAt idx (BitVec.ofNat 4 (e.palIndex v 16))

/-- ENC.ONEBPP of one pixel: on unless R, G and B are all 0 (43_encode.md R252). -/
def EncBuf.encOneBpp (e : EncBuf) (idx : Nat) (c : Color) : EncBuf :=
  let on := decide (0 < c.r.toNat + c.g.toNat + c.b.toNat)
  e.writeOut (idx / 8) (putBit (e.readOut (idx / 8)) (idx % 8) on)

/-- `EncodeTexel`, the dispatch over the ten codecs (43_encode.md R240). -/
def EncBuf.encTexel (e : EncBuf) (codec : Codec) (idx : Nat) (c : Color) : EncBuf :=
  match codec with
  | .rgba16 => e.encRgba16 idx c
  | .rgba32 => e.encRgba32 idx c
  | .ia16 => e.encIa16 idx c
  | .ia8 => e.encIa8 idx c
  | .ia4 => e.encIa4 idx c
  | .i8 => e.encI8 idx c
  | .i4 => e.encI4 idx c
  | .ci8 => e.encCi8 idx c
  | .ci4 => e.encCi4 idx c
  | .oneBpp => e.encOneBpp idx c

/-! ### The operation -/

/-- The buffers before the first pixel: OUT zero-filled to its length, OPAL zero-filled to the palette's size, counts 0
(43_encode.md R233, R240, R241). -/
def State.encStart (s : State) (c : Codec) : EncBuf where
  out := s.out.fresh (p2b c s.pixels) 0
  opal := s.opal.fresh (2 * palCapOf c) 0
  pCount := 0
  exhCnt := 0

/-- The buffers after all pixels, by ascending index (43_encode.md R240, 20_memory.md R75). -/
def State.encoded (s : State) (c : Codec) : EncBuf :=
  ascending s.pixels (fun idx e => e.encTexel c idx (s.readTexel idx)) (s.encStart c)

/-- The state after an admitted ENC (43_encode.md R233, R240, R260). -/
def State.encDone (s : State) (c : Codec) (e : EncBuf) : State :=
  { s with
    out := e.out
    opal := e.opal
    outLen := BitVec.ofNat 32 (p2b c s.pixels)
    opalLen := BitVec.ofNat 10 (2 * palCapOf c)
    pCount := BitVec.ofNat 9 e.pCount
    exhCnt := BitVec.ofNat 30 e.exhCnt
    status := statusEnc e.exhCnt }

/-- ENC of any codec, admitted when the bitmap fits (43_encode.md R240, R242). -/
def State.enc (s : State) (c : Codec) : Host.Outcome State Fault Refusal :=
  if s.caps.bmpCap < s.pixels then .refused .bitmapCapacity else .next (s.encDone c (s.encoded c))

/-- ENC.RGBA16 (43_encode.md R243). -/
def execEncRgba16 (_ : ModeField) (_ : SelField) (s : State) : Host.Outcome State Fault Refusal := s.enc .rgba16

/-- ENC.RGBA32 (43_encode.md R244). -/
def execEncRgba32 (_ : ModeField) (_ : SelField) (s : State) : Host.Outcome State Fault Refusal := s.enc .rgba32

/-- ENC.IA16 (43_encode.md R245). -/
def execEncIa16 (_ : ModeField) (_ : SelField) (s : State) : Host.Outcome State Fault Refusal := s.enc .ia16

/-- ENC.IA8 (43_encode.md R246). -/
def execEncIa8 (_ : ModeField) (_ : SelField) (s : State) : Host.Outcome State Fault Refusal := s.enc .ia8

/-- ENC.IA4 (43_encode.md R247). -/
def execEncIa4 (_ : ModeField) (_ : SelField) (s : State) : Host.Outcome State Fault Refusal := s.enc .ia4

/-- ENC.I8 (43_encode.md R248). -/
def execEncI8 (_ : ModeField) (_ : SelField) (s : State) : Host.Outcome State Fault Refusal := s.enc .i8

/-- ENC.I4 (43_encode.md R249). -/
def execEncI4 (_ : ModeField) (_ : SelField) (s : State) : Host.Outcome State Fault Refusal := s.enc .i4

/-- ENC.CI8 (43_encode.md R250). -/
def execEncCi8 (_ : ModeField) (_ : SelField) (s : State) : Host.Outcome State Fault Refusal := s.enc .ci8

/-- ENC.CI4 (43_encode.md R251). -/
def execEncCi4 (_ : ModeField) (_ : SelField) (s : State) : Host.Outcome State Fault Refusal := s.enc .ci4

/-- ENC.ONEBPP (43_encode.md R252). -/
def execEncOneBpp (_ : ModeField) (_ : SelField) (s : State) : Host.Outcome State Fault Refusal := s.enc .oneBpp

end Sys2Proof.Machine
end

