-- ==== Sys2Proof/Machine/Fmt.lean ====
section
/-! DEFINITION. FMT: format metadata (40_format_metadata.md R120, R122 to R131). -/

namespace Sys2Proof.Machine

/-- The CLASS field of FMTINFO (10_state.md R34). -/
def classCode : PackClass → BitVec 4
  | .oneByte => 0
  | .twoBytes => 1
  | .fourBytes => 2
  | .nibble => 3
  | .bit => 4

/-- `CLASS(codec) | NEEDPAL(codec) << 3` (40_format_metadata.md R120). -/
def fmtWord (c : Codec) : BitVec 4 := classCode (packClass c) ||| (if needsPalette c then 8 else 0)

/-- FMT of any codec; MODE and SEL are ignored (40_format_metadata.md R120). -/
def State.fmt (s : State) (c : Codec) : State := { s with fmtInfo := fmtWord c, status := statusOk }

/-- FMT.RGBA16 (40_format_metadata.md R122). -/
def execFmtRgba16 (_ : ModeField) (_ : SelField) (s : State) : Host.Outcome State Fault Refusal := .next (s.fmt .rgba16)

/-- FMT.RGBA32 (40_format_metadata.md R123). -/
def execFmtRgba32 (_ : ModeField) (_ : SelField) (s : State) : Host.Outcome State Fault Refusal := .next (s.fmt .rgba32)

/-- FMT.IA16 (40_format_metadata.md R124). -/
def execFmtIa16 (_ : ModeField) (_ : SelField) (s : State) : Host.Outcome State Fault Refusal := .next (s.fmt .ia16)

/-- FMT.IA8 (40_format_metadata.md R125). -/
def execFmtIa8 (_ : ModeField) (_ : SelField) (s : State) : Host.Outcome State Fault Refusal := .next (s.fmt .ia8)

/-- FMT.IA4 (40_format_metadata.md R126). -/
def execFmtIa4 (_ : ModeField) (_ : SelField) (s : State) : Host.Outcome State Fault Refusal := .next (s.fmt .ia4)

/-- FMT.I8 (40_format_metadata.md R127). -/
def execFmtI8 (_ : ModeField) (_ : SelField) (s : State) : Host.Outcome State Fault Refusal := .next (s.fmt .i8)

/-- FMT.I4 (40_format_metadata.md R128). -/
def execFmtI4 (_ : ModeField) (_ : SelField) (s : State) : Host.Outcome State Fault Refusal := .next (s.fmt .i4)

/-- FMT.CI8 (40_format_metadata.md R129). -/
def execFmtCi8 (_ : ModeField) (_ : SelField) (s : State) : Host.Outcome State Fault Refusal := .next (s.fmt .ci8)

/-- FMT.CI4 (40_format_metadata.md R130). -/
def execFmtCi4 (_ : ModeField) (_ : SelField) (s : State) : Host.Outcome State Fault Refusal := .next (s.fmt .ci4)

/-- FMT.ONEBPP (40_format_metadata.md R131). -/
def execFmtOneBpp (_ : ModeField) (_ : SelField) (s : State) : Host.Outcome State Fault Refusal := .next (s.fmt .oneBpp)

end Sys2Proof.Machine
end

