-- ==== Sys2Proof/Machine/P2b.lean ====
section
/-! DEFINITION. P2B: pixel count to byte count (40_format_metadata.md R121, R132 to R141). -/

namespace Sys2Proof.Machine

/-- P2B of any codec; MODE and SEL are ignored (40_format_metadata.md R121). -/
def State.pixelsToBytes (s : State) (c : Codec) : State :=
  { s with byteCount := BitVec.ofNat 32 (p2b c s.pixCount.toNat), status := statusOk }

/-- P2B.RGBA16 (40_format_metadata.md R132). -/
def execP2bRgba16 (_ : ModeField) (_ : SelField) (s : State) : Host.Outcome State Fault Refusal := .next (s.pixelsToBytes .rgba16)

/-- P2B.RGBA32 (40_format_metadata.md R133). -/
def execP2bRgba32 (_ : ModeField) (_ : SelField) (s : State) : Host.Outcome State Fault Refusal := .next (s.pixelsToBytes .rgba32)

/-- P2B.IA16 (40_format_metadata.md R134). -/
def execP2bIa16 (_ : ModeField) (_ : SelField) (s : State) : Host.Outcome State Fault Refusal := .next (s.pixelsToBytes .ia16)

/-- P2B.IA8 (40_format_metadata.md R135). -/
def execP2bIa8 (_ : ModeField) (_ : SelField) (s : State) : Host.Outcome State Fault Refusal := .next (s.pixelsToBytes .ia8)

/-- P2B.IA4 (40_format_metadata.md R136). -/
def execP2bIa4 (_ : ModeField) (_ : SelField) (s : State) : Host.Outcome State Fault Refusal := .next (s.pixelsToBytes .ia4)

/-- P2B.I8 (40_format_metadata.md R137). -/
def execP2bI8 (_ : ModeField) (_ : SelField) (s : State) : Host.Outcome State Fault Refusal := .next (s.pixelsToBytes .i8)

/-- P2B.I4 (40_format_metadata.md R138). -/
def execP2bI4 (_ : ModeField) (_ : SelField) (s : State) : Host.Outcome State Fault Refusal := .next (s.pixelsToBytes .i4)

/-- P2B.CI8 (40_format_metadata.md R139). -/
def execP2bCi8 (_ : ModeField) (_ : SelField) (s : State) : Host.Outcome State Fault Refusal := .next (s.pixelsToBytes .ci8)

/-- P2B.CI4 (40_format_metadata.md R140). -/
def execP2bCi4 (_ : ModeField) (_ : SelField) (s : State) : Host.Outcome State Fault Refusal := .next (s.pixelsToBytes .ci4)

/-- P2B.ONEBPP (40_format_metadata.md R141). -/
def execP2bOneBpp (_ : ModeField) (_ : SelField) (s : State) : Host.Outcome State Fault Refusal := .next (s.pixelsToBytes .oneBpp)

end Sys2Proof.Machine
end

