-- ==== Sys2Proof/Machine/Dispatch.lean ====
section
/-! DEFINITION. The dispatch of an instruction to its meaning, one arm per row of the opcode table. -/

namespace Sys2Proof.Machine

def exec (i : Instr) (s : State) : Host.Outcome State Fault Refusal :=
  match i with
  | .fmtRgba16 m q => Sys2Proof.Machine.execFmtRgba16 m q s
  | .fmtRgba32 m q => Sys2Proof.Machine.execFmtRgba32 m q s
  | .fmtIa16 m q => Sys2Proof.Machine.execFmtIa16 m q s
  | .fmtIa8 m q => Sys2Proof.Machine.execFmtIa8 m q s
  | .fmtIa4 m q => Sys2Proof.Machine.execFmtIa4 m q s
  | .fmtI8 m q => Sys2Proof.Machine.execFmtI8 m q s
  | .fmtI4 m q => Sys2Proof.Machine.execFmtI4 m q s
  | .fmtCi8 m q => Sys2Proof.Machine.execFmtCi8 m q s
  | .fmtCi4 m q => Sys2Proof.Machine.execFmtCi4 m q s
  | .fmtOneBpp m q => Sys2Proof.Machine.execFmtOneBpp m q s
  | .p2bRgba16 m q => Sys2Proof.Machine.execP2bRgba16 m q s
  | .p2bRgba32 m q => Sys2Proof.Machine.execP2bRgba32 m q s
  | .p2bIa16 m q => Sys2Proof.Machine.execP2bIa16 m q s
  | .p2bIa8 m q => Sys2Proof.Machine.execP2bIa8 m q s
  | .p2bIa4 m q => Sys2Proof.Machine.execP2bIa4 m q s
  | .p2bI8 m q => Sys2Proof.Machine.execP2bI8 m q s
  | .p2bI4 m q => Sys2Proof.Machine.execP2bI4 m q s
  | .p2bCi8 m q => Sys2Proof.Machine.execP2bCi8 m q s
  | .p2bCi4 m q => Sys2Proof.Machine.execP2bCi4 m q s
  | .p2bOneBpp m q => Sys2Proof.Machine.execP2bOneBpp m q s
  | .decpxRgba16 m q => Sys2Proof.Machine.execDecpxRgba16 m q s
  | .decpxRgba32 m q => Sys2Proof.Machine.execDecpxRgba32 m q s
  | .decpxIa16 m q => Sys2Proof.Machine.execDecpxIa16 m q s
  | .decpxIa8 m q => Sys2Proof.Machine.execDecpxIa8 m q s
  | .decpxIa4 m q => Sys2Proof.Machine.execDecpxIa4 m q s
  | .decpxI8 m q => Sys2Proof.Machine.execDecpxI8 m q s
  | .decpxI4 m q => Sys2Proof.Machine.execDecpxI4 m q s
  | .decpxCi8 m q => Sys2Proof.Machine.execDecpxCi8 m q s
  | .decpxCi4 m q => Sys2Proof.Machine.execDecpxCi4 m q s
  | .decpxOneBpp m q => Sys2Proof.Machine.execDecpxOneBpp m q s
  | .decrgnRgba16 m q => Sys2Proof.Machine.execDecrgnRgba16 m q s
  | .decrgnRgba32 m q => Sys2Proof.Machine.execDecrgnRgba32 m q s
  | .decrgnIa16 m q => Sys2Proof.Machine.execDecrgnIa16 m q s
  | .decrgnIa8 m q => Sys2Proof.Machine.execDecrgnIa8 m q s
  | .decrgnIa4 m q => Sys2Proof.Machine.execDecrgnIa4 m q s
  | .decrgnI8 m q => Sys2Proof.Machine.execDecrgnI8 m q s
  | .decrgnI4 m q => Sys2Proof.Machine.execDecrgnI4 m q s
  | .decrgnCi8 m q => Sys2Proof.Machine.execDecrgnCi8 m q s
  | .decrgnCi4 m q => Sys2Proof.Machine.execDecrgnCi4 m q s
  | .decrgnOneBpp m q => Sys2Proof.Machine.execDecrgnOneBpp m q s
  | .encRgba16 m q => Sys2Proof.Machine.execEncRgba16 m q s
  | .encRgba32 m q => Sys2Proof.Machine.execEncRgba32 m q s
  | .encIa16 m q => Sys2Proof.Machine.execEncIa16 m q s
  | .encIa8 m q => Sys2Proof.Machine.execEncIa8 m q s
  | .encIa4 m q => Sys2Proof.Machine.execEncIa4 m q s
  | .encI8 m q => Sys2Proof.Machine.execEncI8 m q s
  | .encI4 m q => Sys2Proof.Machine.execEncI4 m q s
  | .encCi8 m q => Sys2Proof.Machine.execEncCi8 m q s
  | .encCi4 m q => Sys2Proof.Machine.execEncCi4 m q s
  | .encOneBpp m q => Sys2Proof.Machine.execEncOneBpp m q s

end Sys2Proof.Machine
end

