-- ==== Sys2Proof/Machine/HostPort.lean ====
section
/-! DEFINITION. The host's port: register reads and writes, memory reads and writes, and reset. A write of register 0 is a
command and is not here (Command.lean). -/

namespace Sys2Proof.Machine

/-- What a host read of register `n` returns: bits above a register's width read as zero; CMD and the reserved numbers
read as 0 (10_state.md R21, R24 to R39). -/
def State.readReg (s : State) (n : Nat) : Word :=
  match n with
  | 1 => s.status.setWidth 32
  | 2 => s.offset
  | 3 => s.width.setWidth 32
  | 4 => s.height.setWidth 32
  | 5 => s.pixCount.setWidth 32
  | 6 => s.srcLen
  | 7 => s.palLen
  | 8 => s.color
  | 9 => s.byteCount
  | 10 => s.fmtInfo.setWidth 32
  | 11 => s.outLen
  | 12 => s.opalLen.setWidth 32
  | 13 => s.pCount.setWidth 32
  | 14 => s.exhCnt.setWidth 32
  | _ => 0

/-- A host write of a register other than CMD: the low bits of the register's width are stored; read-only and reserved
numbers ignore it (10_state.md R21, R25 to R39; 92_eei_decisions.md D3). -/
def State.writeReg (s : State) (n : Nat) (v : Word) : State :=
  match n with
  | 2 => { s with offset := v }
  | 3 => { s with width := v.setWidth 15 }
  | 4 => { s with height := v.setWidth 15 }
  | 5 => { s with pixCount := v.setWidth 30 }
  | 6 => { s with srcLen := v }
  | 7 => { s with palLen := v }
  | _ => s

/-- A host write of one byte; OUT and OPAL ignore it (10_state.md R40 to R44, 20_memory.md R72). -/
def State.writeByte (s : State) (sp : ByteSpace) (addr : Nat) (v : Byte) : State :=
  match sp with
  | .src => { s with src := s.src.write addr v }
  | .pal => { s with pal := s.pal.write addr v }
  | .out => s
  | .opal => s

/-- A host write of one texel (10_state.md R42, 20_memory.md R72). -/
def State.writeTexel (s : State) (addr : Nat) (v : Word) : State :=
  { s with bmp := s.bmp.write addr (colorOfWord v) }

/-- The host receives the value of a read (log 4). -/
def State.answer (s : State) (v : Word) : State := { s with hostData := v }

/-- Reset: every register 0, the content of every memory unspecified; the capacities stay, and so does what the host
has still to do and has read (70_reset_and_hazards.md R310; log 8). -/
def State.doReset (s : State) : State :=
  { State.reset with
    src := s.src.redraw
    pal := s.pal.redraw
    bmp := s.bmp.redraw
    out := s.out.redraw
    opal := s.opal.redraw
    caps := s.caps
    host := s.host
    hostData := s.hostData }

/-- A host access to address `addr` of a space of `cap` locations: refused at or beyond the capacity (20_memory.md R72,
93_implementation_defined.md U7). -/
def withinCap (addr cap : Nat) (t : State) : Host.Outcome State Fault Refusal :=
  if addr < cap then .next t else .refused .hostAddress

end Sys2Proof.Machine
end

