-- ==== Sys2Proof/Machine/Command.lean ====
section
/-! DEFINITION. What one host access does: a command by a write of CMD, or an access of the port. -/

namespace Sys2Proof.Machine

/-- A write of word `w` to CMD, in the order of checks of 30_encoding.md R96: reserved words are refused, a codec tag
outside the set raises InvalidCodec, an instruction is executed (10_state.md R24). -/
def issue (w : Word) (s : State) : Host.Outcome State Fault Refusal :=
  match decode w with
  | .instr i => exec i s
  | .invalidCodec => .next s.raiseInvalidCodec
  | .reserved r => .refused (.reservedWord r)

/-- One host access (30_encoding.md R103, 20_memory.md R72) or a reset (70_reset_and_hazards.md R310). -/
def hostAccess (op : HostOp) (s : State) : Host.Outcome State Fault Refusal :=
  match op with
  | .writeReg n v => if n = 0 then issue v s else .next (s.writeReg n v)
  | .readReg n => .next (s.answer (s.readReg n))
  | .writeByte sp addr v => withinCap addr (s.byteCap sp) (s.writeByte sp addr v)
  | .readByte sp addr => withinCap addr (s.byteCap sp) (s.answer ((s.readByte sp addr).setWidth 32))
  | .writeTexel addr v => withinCap addr s.caps.bmpCap (s.writeTexel addr v)
  | .readTexel addr => withinCap addr s.caps.bmpCap (s.answer (colorToWord (s.readTexel addr)))
  | .reset => .next s.doReset

/-- The host's accesses, the oldest taken away. -/
def State.dropHost (s : State) (rest : List HostOp) : State := { s with host := rest }

/-- The host issues an access before all it has still to issue. -/
def State.pushHost (s : State) (op : HostOp) : State := { s with host := op :: s.host }

end Sys2Proof.Machine
end

