-- ==== Sys2Proof/Machine/Step.lean ====
section
/-! DEFINITION. One step of the machine: the host's oldest access, complete before the next begins (20_memory.md R74). -/

namespace Sys2Proof.Machine

/-- One step: perform the oldest host access, or stay idle when there is none (10_state.md R22, 20_memory.md R74;
log 1). -/
def step (s : State) : Host.Outcome State Fault Refusal :=
  match s.host with
  | [] => .next s
  | op :: rest => hostAccess op (s.dropHost rest)

/-- The state in which the next step is the host's write of this command word to CMD (10_state.md R24; log 1). -/
def State.withFetchWord (s : State) (nbits w : Nat) : State := s.pushHost (.writeReg 0 (tableWord nbits w))

end Sys2Proof.Machine
end

