-- ==== Sys2Proof/Safety.lean ====
section
/-! DEFINITION. What counts as a safe step, and the invariants of the machine: what every step keeps. -/

namespace Sys2Proof

open Sys2Proof.Machine

/-- A step is safe when it completes: it is neither a fault (there is none) nor an input the spec gives no outcome. -/
def Safe (o : Host.Outcome State Fault Refusal) : Prop := ∃ t, o = .next t

/-- The memories keep their canonical form, and the host has written no location that does not exist
(10_state.md R40 to R44, 20_memory.md R72). -/
structure MemoryInv (s : State) : Prop where
  srcWf : s.src.wf
  palWf : s.pal.wf
  bmpWf : s.bmp.wf
  outWf : s.out.wf
  opalWf : s.opal.wf
  srcIn : ∀ c ∈ s.src.cells, c.1 < s.caps.srcCap
  palIn : ∀ c ∈ s.pal.cells, c.1 < s.caps.palCap
  bmpIn : ∀ c ∈ s.bmp.cells, c.1 < s.caps.bmpCap

/-- The result registers hold only what the spec says they can: STATUS is 0, 1 or 4 (10_state.md R25), FMTINFO is a
class with its palette flag (R34), OPALLEN is 0, 32 or 512 (R36), and exactly the bytes of OUT and OPAL below OUTLEN and
OPALLEN are defined, within the capacity of OUT (R35, R43, R44; 20_memory.md R70). -/
structure ResultInv (s : State) : Prop where
  statusLegal : s.status = 0 ∨ s.status = 1 ∨ s.status = 4
  fmtLegal : s.fmtInfo ∈ ([0, 1, 2, 3, 4, 8, 11] : List (BitVec 4))
  opalLenLegal : s.opalLen.toNat = 0 ∨ s.opalLen.toNat = 32 ∨ s.opalLen.toNat = 512
  outDefined : s.out.cells.map Prod.fst = List.range s.outLen.toNat
  opalDefined : s.opal.cells.map Prod.fst = List.range s.opalLen.toNat
  outFits : s.outLen.toNat ≤ 4 * s.caps.bmpCap

/-- The output palette: the entries in use lie within OPALLEN, are pairwise distinct, and are followed by zeros
(10_state.md R37, 43_encode.md R233, R235); exhaustion means a full palette (R232); STATUS.EXH means EXHCNT > 0
(R260). -/
structure PaletteInv (s : State) : Prop where
  inUse : 2 * s.pCount.toNat ≤ s.opalLen.toNat
  distinct : ∀ j k, j < s.pCount.toNat → k < s.pCount.toNat → s.opalEntry j = s.opalEntry k → j = k
  unused : ∀ a, 2 * s.pCount.toNat ≤ a → a < s.opalLen.toNat → s.readByte .opal a = 0
  full : 0 < s.exhCnt.toNat → 2 * s.pCount.toNat = s.opalLen.toNat ∧ 0 < s.opalLen.toNat
  flagged : s.status = 4 → 0 < s.exhCnt.toNat

end Sys2Proof
end

