-- ==== Sys2Proof/Certificates/Slice0/Obligations.lean ====
section
/-! DEFINITION. The statements for the provers. The functions of `Sys2Proof.Claims` say the spec's arithmetic over the
natural numbers (00_scope.md R8, R9, R10), apart from the model's own definitions. -/

namespace Sys2Proof.Claims

open Sys2Proof.Machine

/-! ### Command words -/

/-- The number of an operation (30_encoding.md R91). -/
def opNo : Op → Nat
  | .fmt => 1
  | .p2b => 2
  | .decpx => 3
  | .decrgn => 4
  | .enc => 5

/-- The number of a codec (30_encoding.md R92). -/
def codecNo : Codec → Nat
  | .rgba16 => 0
  | .rgba32 => 1
  | .ia16 => 2
  | .ia8 => 3
  | .ia4 => 4
  | .i8 => 5
  | .i4 => 6
  | .ci8 => 7
  | .ci4 => 8
  | .oneBpp => 9

/-- The number of a MODE field (30_encoding.md R93). -/
def modeNo : ModeField → Nat
  | some .copyIntensity => 0
  | some .binary => 1
  | some .full => 2
  | none => 3

/-- The command word with a given low byte, MODE and SEL (30_encoding.md R90). -/
def cmdWord (low : Nat) (m : ModeField) (q : SelField) : Word :=
  BitVec.ofNat 32 (low + 256 * modeNo m + 1024 * q.toNat)

/-- The word with low byte `low` and the instruction's own MODE and SEL is the instruction (30_encoding.md R97), and
executing it in `s` completes in `t`. -/
def Runs (low : Nat) (i : Instr) (s t : State) : Prop :=
  decode (cmdWord low i.mode i.sel) = .instr i ∧ exec i s = .next t

/-- The instruction is refused in `s`: the model has no step for it (60_exceptions.md R284). -/
def Refuses (i : Instr) (s : State) : Prop := ∃ r, exec i s = .refused r

/-- The operation reads MODE (30_encoding.md R100). -/
def usesMode : Op → Codec → Bool
  | .decpx, .i8 => true
  | .decpx, .i4 => true
  | .decrgn, .i8 => true
  | .decrgn, .i4 => true
  | _, _ => false

/-- The operation reads SEL (30_encoding.md R100). -/
def usesSel : Op → Codec → Bool
  | .decpx, .ia4 => true
  | .decpx, .i4 => true
  | .decpx, .ci4 => true
  | .decpx, .oneBpp => true
  | _, _ => false

/-- The codecs with a palette (30_encoding.md R92). -/
def indexed : Codec → Bool
  | .ci8 => true
  | .ci4 => true
  | _ => false

/-- `Need(codec)` (20_memory.md R64). -/
def bytesNeeded : Codec → Nat
  | .rgba16 => 2
  | .rgba32 => 4
  | .ia16 => 2
  | _ => 1

/-! ### Values -/

/-- A Color as a number: `A<<24 | R<<16 | G<<8 | B` (10_state.md R46). -/
def argb (a r g b : Nat) : Nat := a * 2 ^ 24 + r * 2 ^ 16 + g * 2 ^ 8 + b

/-- A grey Color as a number. -/
def greyNo (a i : Nat) : Nat := argb a i i i

/-- The byte at an address of SRC, as a number. -/
def srcNo (s : State) (a : Nat) : Nat := (s.readByte .src a).toNat

/-- The byte at an address of PAL, as a number. -/
def palNo (s : State) (a : Nat) : Nat := (s.readByte .pal a).toNat

/-- The byte at an address of OUT, as a number. -/
def outNo (s : State) (a : Nat) : Nat := (s.readByte .out a).toNat

/-- The byte at an address of OPAL, as a number. -/
def opalNo (s : State) (a : Nat) : Nat := (s.readByte .opal a).toNat

/-- Texel `t` of BMP as a number. -/
def bmpNo (s : State) (t : Nat) : Nat :=
  argb (s.readTexel t).a.toNat (s.readTexel t).r.toNat (s.readTexel t).g.toNat (s.readTexel t).b.toNat

/-- A 5-bit value expanded (41_decode_pixel.md R150). -/
def up5No (v : Nat) : Nat := v * 255 / 31

/-- The Color of a raw RGBA16 pair (41_decode_pixel.md R153). -/
def rgba16No (b0 b1 : Nat) : Nat :=
  let raw := b0 * 256 + b1
  argb (255 * (raw % 2)) (up5No (raw / 2048 % 32)) (up5No (raw / 64 % 32)) (up5No (raw / 2 % 32))

/-- A nibble of a byte: selector 0 is the high one (20_memory.md R63). -/
def nibNo (b sel : Nat) : Nat := if sel = 0 then b / 16 else b % 16

/-- A bit of a byte: selector 0 is bit 7 (20_memory.md R62). -/
def bitNo (b sel : Nat) : Nat := b / 2 ^ (7 - sel) % 2

/-- The alpha of an intensity (41_decode_pixel.md R154). -/
def alphaNo (m : AlphaMode) (i : Nat) : Nat :=
  match m with
  | .copyIntensity => i
  | .binary => if i = 0 then 0 else 255
  | .full => 255

/-- The Color of an RGBA32 texel's four bytes, R, G, B, A in order (41_decode_pixel.md R161). -/
def rgba32No (b0 b1 b2 b3 : Nat) : Nat := argb b3 b0 b1 b2

/-- The Color of an IA16 texel's two bytes (41_decode_pixel.md R162). -/
def ia16No (b0 b1 : Nat) : Nat := greyNo b1 b0

/-- The Color of an IA8 byte (41_decode_pixel.md R163). -/
def ia8No (b : Nat) : Nat := greyNo (b % 16 * 17) (b / 16 * 17)

/-- The Color of an IA4 nibble (41_decode_pixel.md R164). -/
def ia4No (n : Nat) : Nat := greyNo (255 * (n % 2)) (n / 2 * 255 / 7)

/-- The Color of an I8 byte (41_decode_pixel.md R165). -/
def i8No (m : AlphaMode) (b : Nat) : Nat := greyNo (alphaNo m b) b

/-- The Color of an I4 nibble (41_decode_pixel.md R166). -/
def i4No (m : AlphaMode) (n : Nat) : Nat := greyNo (alphaNo m (n * 17)) (n * 17)

/-- The Color of palette entry `k` (41_decode_pixel.md R156). -/
def palColorNo (s : State) (k : Nat) : Nat := rgba16No (palNo s (2 * k)) (palNo s (2 * k + 1))

/-- The Color of a OneBPP bit (41_decode_pixel.md R169). -/
def oneBppNo (t : Nat) : Nat := greyNo (255 * t) (255 * t)

/-! ### Decode: where a command completes and what it writes -/

/-- A DECPX texel of `n` bytes at OFFSET lies in the source buffer, which lies in SRC (41_decode_pixel.md R159). -/
def PixelIn (s : State) (n : Nat) : Prop :=
  s.srcLen.toNat ≤ s.caps.srcCap ∧ s.offset.toNat + n - 1 < s.srcLen.toNat

/-- Palette entry `k` lies in the palette buffer, which lies in PAL (41_decode_pixel.md R159). -/
def EntryIn (s : State) (k : Nat) : Prop := s.palLen.toNat ≤ s.caps.palCap ∧ 2 * k + 1 < s.palLen.toNat

/-- What a DECPX leaves: COLOR holds `v`, STATUS is 0, every other register and every memory is unchanged
(41_decode_pixel.md R158). -/
def PixelDone (s t : State) (v : Nat) : Prop := t = { s with color := t.color, status := 0 } ∧ t.color.toNat = v

/-- WIDTH * HEIGHT. -/
def pixelCount (s : State) : Nat := s.width.toNat * s.height.toNat

/-- The region fits BMP and the source buffer fits SRC (42_decode_region.md R194). -/
def RegionFits (s : State) : Prop := pixelCount s ≤ s.caps.bmpCap ∧ s.srcLen.toNat ≤ s.caps.srcCap

/-- The last of the `n` bytes of a texel at `a` is in the source buffer (20_memory.md R67). -/
def TexelIn (s : State) (n a : Nat) : Prop := a + n - 1 < s.srcLen.toNat

/-- Every in-bounds texel of the region has its palette entry in the palette buffer, which lies in PAL
(42_decode_region.md R194). -/
def RegionPalette (s : State) (addr index : Nat → Nat) : Prop :=
  s.palLen.toNat ≤ s.caps.palCap ∧
    ∀ idx, idx < pixelCount s → TexelIn s 1 (addr idx) → 2 * index idx + 1 < s.palLen.toNat

/-- What a DECRGN leaves: BMP texel `idx` holds `val idx` where `idx` is in the region and its `n` bytes at `addr idx`
are in the source buffer, every other texel is unchanged, STATUS is 0, every other register and memory is unchanged
(42_decode_region.md R190, R192, R193). -/
def RegionDone (s t : State) (n : Nat) (addr val : Nat → Nat) : Prop :=
  t = { s with bmp := t.bmp, status := 0 } ∧
    ∀ idx,
      (idx < pixelCount s ∧ TexelIn s n (addr idx) → bmpNo t idx = val idx) ∧
        (¬(idx < pixelCount s ∧ TexelIn s n (addr idx)) → t.readTexel idx = s.readTexel idx)

/-! ### Encode -/

/-- `dn5` (43_encode.md R220). -/
def dn5No (v : Nat) : Nat := (v + 4) * 31 / 255

/-- The raw 16-bit value of BMP texel `t` (43_encode.md R225). -/
def rawNo (s : State) (t : Nat) : Nat :=
  dn5No (s.readTexel t).r.toNat * 2048 + dn5No (s.readTexel t).g.toNat * 64 + dn5No (s.readTexel t).b.toNat * 2 +
    (if 0 < (s.readTexel t).a.toNat then 1 else 0)

/-- The intensity of BMP texel `t` (43_encode.md R223). -/
def meanNo (s : State) (t : Nat) : Nat :=
  ((s.readTexel t).r.toNat + (s.readTexel t).g.toNat + (s.readTexel t).b.toNat) / 3

/-- The alpha of BMP texel `t`. -/
def alphaOfTexel (s : State) (t : Nat) : Nat := (s.readTexel t).a.toNat

/-- The bitmap fits BMP (43_encode.md R242). -/
def BitmapFits (s : State) : Prop := pixelCount s ≤ s.caps.bmpCap

/-- What every ENC leaves apart from the data: OUTLEN and OPALLEN have their values, and every register and memory that
ENC does not write is unchanged (43_encode.md R240, 10_state.md R21). -/
def EncFrame (s t : State) (outLen opalLen : Nat) : Prop :=
  t = { s with out := t.out, outLen := t.outLen, opal := t.opal, opalLen := t.opalLen, pCount := t.pCount,
               exhCnt := t.exhCnt, status := t.status } ∧
    t.outLen.toNat = outLen ∧ t.opalLen.toNat = opalLen

/-- The same for a codec without a palette: no palette, no exhaustion (43_encode.md R233, R260). -/
def EncPlain (s t : State) (outLen : Nat) : Prop :=
  EncFrame s t outLen 0 ∧ t.pCount = 0 ∧ t.exhCnt = 0 ∧ t.status = 0

/-- The byte of OUT that holds nibbles `2k` and `2k+1`, the missing one of an odd count being 0
(43_encode.md R226, R241). -/
def packedNibbles (n : Nat) (nibble : Nat → Nat) (k : Nat) : Nat :=
  nibble (2 * k) * 16 + (if 2 * k + 1 < n then nibble (2 * k + 1) else 0)

/-- The distinct values among `raw 0`, ..., `raw (n-1)`, by first appearance (43_encode.md R235). -/
def appearances (raw : Nat → Nat) : Nat → List Nat
  | 0 => []
  | n + 1 => if raw n ∈ appearances raw n then appearances raw n else appearances raw n ++ [raw n]

/-- The palette an encode of capacity `cap` builds: the first `cap` distinct raw values (43_encode.md R235). -/
def paletteOf (s : State) (cap : Nat) : List Nat := (appearances (rawNo s) (pixelCount s)).take cap

/-- How many pixels' raw values are not in that palette (43_encode.md R235). -/
def exhausted (s : State) (cap : Nat) : Nat :=
  ((List.range (pixelCount s)).filter fun idx => !(paletteOf s cap).contains (rawNo s idx)).length

/-- The index stored for a pixel: its raw value's place in the palette, or 0 when it has none
(43_encode.md R231, R232). -/
def IndexFor (s : State) (cap idx k : Nat) : Prop :=
  (rawNo s idx ∈ paletteOf s cap → (paletteOf s cap)[k]? = some (rawNo s idx)) ∧
    (rawNo s idx ∉ paletteOf s cap → k = 0)

/-- OPAL, PCOUNT, EXHCNT and STATUS after an encode with a palette of capacity `cap`
(43_encode.md R233, R235, R260). -/
def PaletteDone (s t : State) (cap : Nat) : Prop :=
  t.pCount.toNat = (paletteOf s cap).length ∧
    (∀ j v, (paletteOf s cap)[j]? = some v → opalNo t (2 * j) * 256 + opalNo t (2 * j + 1) = v) ∧
    (∀ a, 2 * (paletteOf s cap).length ≤ a → a < 2 * cap → opalNo t a = 0) ∧
    t.exhCnt.toNat = exhausted s cap ∧ t.status = (if 0 < exhausted s cap then 4 else 0)

/-- A state set up to decode what an encode left in `t`: OUT copied to SRC, its length to SRCLEN, OFFSET 0, the same
geometry, within the capacities (70_reset_and_hazards.md R324, 43_encode.md R263). -/
def CopiedBack (t u : State) : Prop :=
  u.width = t.width ∧ u.height = t.height ∧ u.offset = 0 ∧
    u.srcLen = t.outLen ∧ (∀ a, a < t.outLen.toNat → u.readByte .src a = t.readByte .out a) ∧ RegionFits u

/-- And for the indexed codecs OPAL copied to PAL and its length to PALLEN (70_reset_and_hazards.md R324). -/
def PaletteCopiedBack (t u : State) : Prop :=
  u.palLen.toNat = t.opalLen.toNat ∧ (∀ a, a < t.opalLen.toNat → u.readByte .pal a = t.readByte .opal a) ∧
    u.palLen.toNat ≤ u.caps.palCap

end Sys2Proof.Claims

open Sys2Proof Sys2Proof.Machine Sys2Proof.Claims

/-! ## Encoding -/

/-- R90, R97: no bit of an encoding is dropped. Every well-formed instruction, with every MODE and SEL its word
admits, is what its own word decodes to. -/
def Obligations.DecodeInvertsEncode : Prop := ∀ i : Instr, i.wf → decode (encode i) = .instr i

/-- R90, R97: a command word has one meaning. What decodes to an instruction is that instruction's word, and the
instruction is well formed. -/
def Obligations.DecodedWordsReencode : Prop :=
  ∀ (w : Word) (i : Instr), decode w = .instr i → i.wf ∧ encode i = w

/-- R97: a word is the instruction (operation, codec) iff it equals `CODEC<<4 | OP` under the mask; it then decodes to
that instruction with the word's MODE and SEL, unless these are reserved for it (R99 c, d). -/
def Obligations.MaskAndMatchSelectRow : Prop :=
  ∀ (w : Word) (op : Op) (c : Codec),
    (w &&& 0xFFFFE0FF#32 = BitVec.ofNat 32 (16 * codecNo c + opNo op) ↔
      ∃ i : Instr, i.op = op ∧ i.codec = c ∧ w = cmdWord (16 * codecNo c + opNo op) i.mode i.sel ∧
        (decode w = .instr i ∨ ¬i.wf ∧ ∃ r, decode w = .reserved r))

/-- R99: the reserved words are exactly those of the four kinds, and each is refused: no step. -/
def Obligations.ReservedWordsAreRefused : Prop :=
  ∀ w : Word,
    ((∃ r, decode w = .reserved r) ↔
      w.toNat / 2 ^ 13 ≠ 0 ∨ w.toNat % 16 = 0 ∨ 6 ≤ w.toNat % 16 ∨
        ((w.toNat % 16 = 3 ∨ w.toNat % 16 = 4) ∧ (w.toNat / 16 % 16 = 5 ∨ w.toNat / 16 % 16 = 6) ∧
          w.toNat / 256 % 4 = 3) ∨
        (w.toNat % 16 = 3 ∧ (w.toNat / 16 % 16 = 4 ∨ w.toNat / 16 % 16 = 6 ∨ w.toNat / 16 % 16 = 8) ∧
          2 ≤ w.toNat / 1024 % 8)) ∧
      ∀ r, decode w = .reserved r → ∀ s, issue w s = .refused (.reservedWord r)

/-- R98, R281: a word with a legal OP, zero reserved bits and CODEC 10 to 15 sets STATUS to 1 and changes nothing
else, in every state. -/
def Obligations.InvalidCodecOnlySetsStatus : Prop :=
  ∀ (w : Word) (s : State),
    w.toNat / 2 ^ 13 = 0 → 1 ≤ w.toNat % 16 → w.toNat % 16 ≤ 5 → 10 ≤ w.toNat / 16 % 16 →
      issue w s = .next { s with status := 1 }

/-- R100: two command words of one row that differ only in fields the row ignores have the same effect in every
state, whatever value, reserved ones included, the ignored fields hold. -/
def Obligations.IgnoredFieldsHaveNoEffect : Prop :=
  ∀ (op : Op) (c : Codec) (m m' : ModeField) (q q' : SelField) (s : State),
    (usesMode op c = true → m = m') → (usesSel op c = true → q = q') →
      issue (cmdWord (16 * codecNo c + opNo op) m q) s = issue (cmdWord (16 * codecNo c + opNo op) m' q') s

/-- R102: the worked command words decode to the instructions they are written as. -/
def Obligations.WorkedWordsDecode : Prop :=
  decode 0x00000153#32 = .instr (.decpxI8 (some .binary) 0) ∧
    decode 0x00000493#32 = .instr (.decpxOneBpp (some .copyIntensity) 1) ∧
    decode 0x00000085#32 = .instr (.encCi4 (some .copyIntensity) 0) ∧
    decode 0x00000663#32 = .instr (.decpxI4 (some .full) 1) ∧
    decode 0x00000264#32 = .instr (.decrgnI4 (some .full) 0) ∧
    decode 0x00001F81#32 = .instr (.fmtCi4 none 7) ∧ decode 0x00000012#32 = .instr (.p2bRgba32 (some .copyIntensity) 0)

/-! ## Steps -/

/-- R24, R96, R98, R99: a step on a write to CMD, for every word. The access is taken from the host's list and the word
is issued: a word that decodes to an instruction executes it, an invalid codec tag sets STATUS to 1 and changes nothing
else, a reserved word is refused. -/
def Obligations.StepRunsDecodedInstruction : Prop :=
  ∀ (s : State) (w : Word) (rest : List HostOp), s.host = .writeReg 0 w :: rest →
    step s = issue w { s with host := rest } ∧
      (∀ i, decode w = .instr i → step s = exec i { s with host := rest }) ∧
      (decode w = .invalidCodec → step s = .next { s with host := rest, status := 1 }) ∧
      ∀ r, decode w = .reserved r → step s = .refused (.reservedWord r)

/-- R22: an engine whose host issues nothing stays as it is (the model's idle step, log 1). -/
def Obligations.IdleStepChangesNothing : Prop := ∀ s : State, s.host = [] → step s = .next s

/-! ## Reset and the host's port -/

/-- R47: after reset every register reads 0 and no location of any memory has been written. -/
def Obligations.ResetLeavesRegistersZero : Prop :=
  (∀ n, State.reset.readReg n = 0) ∧
    (∀ sp a, (State.reset.byteMem sp).written a = none) ∧ ∀ t, State.reset.bmp.written t = none

/-- R310: a reset between two host accesses leaves every register 0 and the content of every memory unspecified:
nothing written to it counts any more. That a reset is one of the host's accesses and keeps the later ones is the
model's choice (log 8), and so is that the capacities, which do not change, are a field of State (log 2). -/
def Obligations.ResetEventClearsEngine : Prop :=
  ∀ (s : State) (rest : List HostOp), s.host = .reset :: rest →
    ∃ t, step s = .next t ∧ (∀ n, t.readReg n = 0) ∧ (∀ sp a, (t.byteMem sp).written a = none) ∧
      (∀ a, t.bmp.written a = none) ∧ t.caps = s.caps ∧ t.host = rest

/-- R21, R24 to R39: what a host read of each register number returns, as a number; the read changes nothing in the
engine. -/
def Obligations.RegisterReadsReturnState : Prop :=
  ∀ (s : State) (n : Nat) (rest : List HostOp), s.host = .readReg n :: rest →
    ∃ t, step s = .next t ∧ t = { s with host := rest, hostData := t.hostData } ∧
      t.hostData.toNat =
        if n = 1 then s.status.toNat
        else if n = 2 then s.offset.toNat
        else if n = 3 then s.width.toNat
        else if n = 4 then s.height.toNat
        else if n = 5 then s.pixCount.toNat
        else if n = 6 then s.srcLen.toNat
        else if n = 7 then s.palLen.toNat
        else if n = 8 then s.color.toNat
        else if n = 9 then s.byteCount.toNat
        else if n = 10 then s.fmtInfo.toNat
        else if n = 11 then s.outLen.toNat
        else if n = 12 then s.opalLen.toNat
        else if n = 13 then s.pCount.toNat
        else if n = 14 then s.exhCnt.toNat
        else 0

/-- R21, R25 to R39: a host write of a register other than CMD stores the low bits of the register's width in OFFSET,
WIDTH, HEIGHT, PIXCOUNT, SRCLEN or PALLEN and is ignored by every other number. -/
def Obligations.RegisterWritesKeepWidths : Prop :=
  ∀ (s : State) (n : Nat) (v : Word) (rest : List HostOp), n ≠ 0 → s.host = .writeReg n v :: rest →
    ∃ t, step s = .next t ∧
      t = { s with host := rest, offset := t.offset, width := t.width, height := t.height, pixCount := t.pixCount,
                   srcLen := t.srcLen, palLen := t.palLen } ∧
      t.offset.toNat = (if n = 2 then v.toNat else s.offset.toNat) ∧
      t.width.toNat = (if n = 3 then v.toNat % 2 ^ 15 else s.width.toNat) ∧
      t.height.toNat = (if n = 4 then v.toNat % 2 ^ 15 else s.height.toNat) ∧
      t.pixCount.toNat = (if n = 5 then v.toNat % 2 ^ 30 else s.pixCount.toNat) ∧
      t.srcLen.toNat = (if n = 6 then v.toNat else s.srcLen.toNat) ∧
      t.palLen.toNat = (if n = 7 then v.toNat else s.palLen.toNat)

/-- R72, R71: a host write of a byte below the capacity changes that byte of SRC or PAL and no other byte, is ignored
by OUT and OPAL, and changes nothing else. -/
def Obligations.HostByteWrites : Prop :=
  ∀ (s : State) (sp : ByteSpace) (a : Nat) (v : Byte) (rest : List HostOp),
    s.host = .writeByte sp a v :: rest → a < s.byteCap sp →
      ∃ t, step s = .next t ∧ t = { s with host := rest, src := t.src, pal := t.pal } ∧
        ∀ sp' a', t.readByte sp' a' =
          if sp' = sp ∧ a' = a ∧ (sp = .src ∨ sp = .pal) then v else s.readByte sp' a'

/-- R72, R42, R46: a host write of a texel below BMP_CAP changes that texel of BMP, to the Color the word packs, and
nothing else. -/
def Obligations.HostTexelWrites : Prop :=
  ∀ (s : State) (a : Nat) (v : Word) (rest : List HostOp),
    s.host = .writeTexel a v :: rest → a < s.caps.bmpCap →
      ∃ t, step s = .next t ∧ t = { s with host := rest, bmp := t.bmp } ∧ bmpNo t a = v.toNat ∧
        ∀ a', a' ≠ a → t.readTexel a' = s.readTexel a'

/-- R72: a host read below the capacity returns the byte or the packed Color and changes nothing in the engine. -/
def Obligations.HostReadsReturnMemory : Prop :=
  (∀ (s : State) (sp : ByteSpace) (a : Nat) (rest : List HostOp),
      s.host = .readByte sp a :: rest → a < s.byteCap sp →
        ∃ t, step s = .next t ∧ t = { s with host := rest, hostData := t.hostData } ∧
          t.hostData.toNat = (s.readByte sp a).toNat) ∧
    ∀ (s : State) (a : Nat) (rest : List HostOp),
      s.host = .readTexel a :: rest → a < s.caps.bmpCap →
        ∃ t, step s = .next t ∧ t = { s with host := rest, hostData := t.hostData } ∧ t.hostData.toNat = bmpNo s a

/-- R72, U7: a host access at or above the space's capacity is refused, in every space and in both directions; the
capacities are SRC_CAP, PAL_CAP, 4 * BMP_CAP, 512 and BMP_CAP. -/
def Obligations.HostAccessBeyondCapacityRefused : Prop :=
  ∀ (s : State) (a : Nat) (v : Byte) (w : Word) (rest : List HostOp),
    (∀ sp cap, (sp, cap) ∈ [(ByteSpace.src, s.caps.srcCap), (.pal, s.caps.palCap), (.out, 4 * s.caps.bmpCap), (.opal, 512)] →
        cap ≤ a →
          step { s with host := .writeByte sp a v :: rest } = .refused .hostAddress ∧
            step { s with host := .readByte sp a :: rest } = .refused .hostAddress) ∧
      (s.caps.bmpCap ≤ a →
        step { s with host := .writeTexel a w :: rest } = .refused .hostAddress ∧
          step { s with host := .readTexel a :: rest } = .refused .hostAddress)

/-! ## FMT and P2B -/

/-- R120, R122 to R131: each FMT writes its codec's class and palette flag to FMTINFO and 0 to STATUS and nothing
else, whatever MODE and SEL. -/
def Obligations.FmtReportsClassAndPalette : Prop :=
  ∀ (m : ModeField) (q : SelField) (s : State),
    Runs 0x01 (.fmtRgba16 m q) s { s with fmtInfo := 0x1, status := 0 } ∧
      Runs 0x11 (.fmtRgba32 m q) s { s with fmtInfo := 0x2, status := 0 } ∧
      Runs 0x21 (.fmtIa16 m q) s { s with fmtInfo := 0x1, status := 0 } ∧
      Runs 0x31 (.fmtIa8 m q) s { s with fmtInfo := 0x0, status := 0 } ∧
      Runs 0x41 (.fmtIa4 m q) s { s with fmtInfo := 0x3, status := 0 } ∧
      Runs 0x51 (.fmtI8 m q) s { s with fmtInfo := 0x0, status := 0 } ∧
      Runs 0x61 (.fmtI4 m q) s { s with fmtInfo := 0x3, status := 0 } ∧
      Runs 0x71 (.fmtCi8 m q) s { s with fmtInfo := 0x8, status := 0 } ∧
      Runs 0x81 (.fmtCi4 m q) s { s with fmtInfo := 0xB, status := 0 } ∧
      Runs 0x91 (.fmtOneBpp m q) s { s with fmtInfo := 0x4, status := 0 }

/-- R121, R132 to R141: each P2B writes the byte count of PIXCOUNT texels to BYTECOUNT, exactly and rounded up for the
packed codecs, and 0 to STATUS and nothing else, whatever MODE and SEL. -/
def Obligations.P2bCountsBytes : Prop :=
  ∀ (m : ModeField) (q : SelField) (s : State),
    ∀ row ∈
      [(0x02, Instr.p2bRgba16 m q, 2 * s.pixCount.toNat), (0x12, .p2bRgba32 m q, 4 * s.pixCount.toNat),
        (0x22, .p2bIa16 m q, 2 * s.pixCount.toNat), (0x32, .p2bIa8 m q, s.pixCount.toNat),
        (0x42, .p2bIa4 m q, (s.pixCount.toNat + 1) / 2), (0x52, .p2bI8 m q, s.pixCount.toNat),
        (0x62, .p2bI4 m q, (s.pixCount.toNat + 1) / 2), (0x72, .p2bCi8 m q, s.pixCount.toNat),
        (0x82, .p2bCi4 m q, (s.pixCount.toNat + 1) / 2), (0x92, .p2bOneBpp m q, (s.pixCount.toNat + 7) / 8)],
      ∃ t, Runs row.1 row.2.1 s t ∧ t = { s with byteCount := t.byteCount, status := 0 } ∧
        t.byteCount.toNat = row.2.2

/-! ## DECPX -/

/-- R160: DECPX.RGBA16 of an in-bounds texel, at any address, odd ones too. -/
def Obligations.DecpxRgba16Color : Prop :=
  ∀ (m : ModeField) (q : SelField) (s : State), PixelIn s 2 →
    ∃ t, Runs 0x03 (.decpxRgba16 m q) s t ∧
      PixelDone s t (rgba16No (srcNo s s.offset.toNat) (srcNo s (s.offset.toNat + 1)))

/-- R161, R162: DECPX.RGBA32 and DECPX.IA16 of an in-bounds texel pass the stored bytes through. -/
def Obligations.DecpxWholeByteColors : Prop :=
  ∀ (m : ModeField) (q : SelField) (s : State),
    (PixelIn s 4 →
        ∃ t, Runs 0x13 (.decpxRgba32 m q) s t ∧
          PixelDone s t
            (rgba32No (srcNo s s.offset.toNat) (srcNo s (s.offset.toNat + 1)) (srcNo s (s.offset.toNat + 2))
              (srcNo s (s.offset.toNat + 3)))) ∧
      (PixelIn s 2 →
        ∃ t, Runs 0x23 (.decpxIa16 m q) s t ∧
          PixelDone s t (ia16No (srcNo s s.offset.toNat) (srcNo s (s.offset.toNat + 1))))

/-- R163, R164: DECPX.IA8 and DECPX.IA4 of an in-bounds texel; SEL picks the nibble of IA4 and is refused from 2 up. -/
def Obligations.DecpxIntensityAlphaColors : Prop :=
  ∀ (m : ModeField) (q : SelField) (s : State), PixelIn s 1 →
    (∃ t, Runs 0x33 (.decpxIa8 m q) s t ∧ PixelDone s t (ia8No (srcNo s s.offset.toNat))) ∧
      (q.toNat ≤ 1 →
        ∃ t, Runs 0x43 (.decpxIa4 m q) s t ∧ PixelDone s t (ia4No (nibNo (srcNo s s.offset.toNat) q.toNat))) ∧
      (1 < q.toNat → Refuses (.decpxIa4 m q) s)

/-- R165, R166: DECPX.I8 and DECPX.I4 of an in-bounds texel in each of the three modes; MODE = 3, and for I4 SEL from
2 up, are refused. -/
def Obligations.DecpxIntensityColors : Prop :=
  ∀ (m : AlphaMode) (q : SelField) (s : State), PixelIn s 1 →
    (∃ t, Runs 0x53 (.decpxI8 (some m) q) s t ∧ PixelDone s t (i8No m (srcNo s s.offset.toNat))) ∧
      (q.toNat ≤ 1 →
        ∃ t, Runs 0x63 (.decpxI4 (some m) q) s t ∧
          PixelDone s t (i4No m (nibNo (srcNo s s.offset.toNat) q.toNat))) ∧
      Refuses (.decpxI8 none q) s ∧ Refuses (.decpxI4 none q) s ∧ (1 < q.toNat → Refuses (.decpxI4 (some m) q) s)

/-- R167, R168: DECPX.CI8 and DECPX.CI4 of an in-bounds texel whose palette entry is in the palette; without the entry,
and for CI4 with SEL from 2 up, they are refused. -/
def Obligations.DecpxPaletteColors : Prop :=
  ∀ (m : ModeField) (q : SelField) (s : State), PixelIn s 1 →
    (EntryIn s (srcNo s s.offset.toNat) →
        ∃ t, Runs 0x73 (.decpxCi8 m q) s t ∧ PixelDone s t (palColorNo s (srcNo s s.offset.toNat))) ∧
      (q.toNat ≤ 1 → EntryIn s (nibNo (srcNo s s.offset.toNat) q.toNat) →
        ∃ t, Runs 0x83 (.decpxCi4 m q) s t ∧
          PixelDone s t (palColorNo s (nibNo (srcNo s s.offset.toNat) q.toNat))) ∧
      (¬EntryIn s (srcNo s s.offset.toNat) → Refuses (.decpxCi8 m q) s) ∧
      (1 < q.toNat ∨ ¬EntryIn s (nibNo (srcNo s s.offset.toNat) q.toNat) → Refuses (.decpxCi4 m q) s)

/-- R169: DECPX.ONEBPP of an in-bounds texel, for each of the eight selectors. -/
def Obligations.DecpxOneBppColor : Prop :=
  ∀ (m : ModeField) (q : SelField) (s : State), PixelIn s 1 →
    ∃ t, Runs 0x93 (.decpxOneBpp m q) s t ∧
      PixelDone s t (oneBppNo (bitNo (srcNo s s.offset.toNat) q.toNat))

/-- R159: a DECPX completes exactly when the listed conditions hold, and is refused otherwise: never an error code,
never a skip. -/
def Obligations.DecpxAdmission : Prop :=
  ∀ (c : Codec) (m : ModeField) (q : SelField) (s : State),
    let i := Instr.ofParts .decpx c m q
    let admitted :=
      s.srcLen.toNat ≤ s.caps.srcCap ∧ s.offset.toNat + bytesNeeded c - 1 < s.srcLen.toNat ∧
        ((c = .ia4 ∨ c = .i4 ∨ c = .ci4) → q.toNat ≤ 1) ∧ ((c = .i8 ∨ c = .i4) → modeNo m ≤ 2) ∧
        (c = .ci8 → s.palLen.toNat ≤ s.caps.palCap ∧ 2 * srcNo s s.offset.toNat + 1 < s.palLen.toNat) ∧
        (c = .ci4 → s.palLen.toNat ≤ s.caps.palCap ∧
          2 * nibNo (srcNo s s.offset.toNat) q.toNat + 1 < s.palLen.toNat)
    (admitted → ∃ t, exec i s = .next t) ∧ (¬admitted → Refuses i s)

/-- R172: a DECPX result depends on OFFSET, SRCLEN, PALLEN and the bytes of SRC and PAL below those lengths, and on
nothing else of the state. -/
def Obligations.DecpxDependsOnItsInputs : Prop :=
  ∀ (c : Codec) (m : ModeField) (q : SelField) (s s' t : State),
    s'.offset = s.offset → s'.srcLen = s.srcLen → s'.palLen = s.palLen → s'.caps = s.caps →
    (∀ a, a < s.srcLen.toNat → s'.readByte .src a = s.readByte .src a) →
    (∀ a, a < s.palLen.toNat → s'.readByte .pal a = s.readByte .pal a) →
    exec (Instr.ofParts .decpx c m q) s = .next t →
      ∃ t', exec (Instr.ofParts .decpx c m q) s' = .next t' ∧ t'.color = t.color ∧ t'.status = t.status

/-! ## DECRGN -/

/-- R195, R196, R197, R198: DECRGN of the codecs of one, two and four bytes per texel that read neither MODE nor a
palette. -/
def Obligations.DecrgnWholeByteRegions : Prop :=
  ∀ (m : ModeField) (q : SelField) (s : State), RegionFits s →
    let a2 := fun idx => s.offset.toNat + 2 * idx
    let a4 := fun idx => s.offset.toNat + 4 * idx
    let a1 := fun idx => s.offset.toNat + idx
    (∃ t, Runs 0x04 (.decrgnRgba16 m q) s t ∧
        RegionDone s t 2 a2 fun idx => rgba16No (srcNo s (a2 idx)) (srcNo s (a2 idx + 1))) ∧
      (∃ t, Runs 0x14 (.decrgnRgba32 m q) s t ∧
        RegionDone s t 4 a4 fun idx =>
          rgba32No (srcNo s (a4 idx)) (srcNo s (a4 idx + 1)) (srcNo s (a4 idx + 2)) (srcNo s (a4 idx + 3))) ∧
      (∃ t, Runs 0x24 (.decrgnIa16 m q) s t ∧
        RegionDone s t 2 a2 fun idx => ia16No (srcNo s (a2 idx)) (srcNo s (a2 idx + 1))) ∧
      ∃ t, Runs 0x34 (.decrgnIa8 m q) s t ∧ RegionDone s t 1 a1 fun idx => ia8No (srcNo s (a1 idx))

/-- R199, R204: DECRGN of the packed codecs that read neither MODE nor a palette: IA4 two texels to a byte, ONEBPP
eight, with no row padding. -/
def Obligations.DecrgnPackedRegions : Prop :=
  ∀ (m : ModeField) (q : SelField) (s : State), RegionFits s →
    let a2 := fun idx => s.offset.toNat + idx / 2
    let a8 := fun idx => s.offset.toNat + idx / 8
    (∃ t, Runs 0x44 (.decrgnIa4 m q) s t ∧
        RegionDone s t 1 a2 fun idx => ia4No (nibNo (srcNo s (a2 idx)) (idx % 2))) ∧
      ∃ t, Runs 0x94 (.decrgnOneBpp m q) s t ∧
        RegionDone s t 1 a8 fun idx => oneBppNo (bitNo (srcNo s (a8 idx)) (idx % 8))

/-- R200, R201: DECRGN of the intensity codecs in each of the three modes; MODE = 3 is refused in every state. -/
def Obligations.DecrgnIntensityRegions : Prop :=
  ∀ (q : SelField) (s : State),
    let a1 := fun idx => s.offset.toNat + idx
    let a2 := fun idx => s.offset.toNat + idx / 2
    (RegionFits s → ∀ m : AlphaMode,
        (∃ t, Runs 0x54 (.decrgnI8 (some m) q) s t ∧ RegionDone s t 1 a1 fun idx => i8No m (srcNo s (a1 idx))) ∧
          ∃ t, Runs 0x64 (.decrgnI4 (some m) q) s t ∧
            RegionDone s t 1 a2 fun idx => i4No m (nibNo (srcNo s (a2 idx)) (idx % 2))) ∧
      Refuses (.decrgnI8 none q) s ∧ Refuses (.decrgnI4 none q) s

/-- R202, R203: DECRGN of the indexed codecs when every in-bounds texel's entry is in the palette; when one is not,
the command is refused. -/
def Obligations.DecrgnPaletteRegions : Prop :=
  ∀ (m : ModeField) (q : SelField) (s : State), RegionFits s →
    let a1 := fun idx => s.offset.toNat + idx
    let a2 := fun idx => s.offset.toNat + idx / 2
    let k1 := fun idx => srcNo s (a1 idx)
    let k2 := fun idx => nibNo (srcNo s (a2 idx)) (idx % 2)
    (RegionPalette s a1 k1 →
        ∃ t, Runs 0x74 (.decrgnCi8 m q) s t ∧ RegionDone s t 1 a1 fun idx => palColorNo s (k1 idx)) ∧
      (RegionPalette s a2 k2 →
        ∃ t, Runs 0x84 (.decrgnCi4 m q) s t ∧ RegionDone s t 1 a2 fun idx => palColorNo s (k2 idx)) ∧
      (¬RegionPalette s a1 k1 → Refuses (.decrgnCi8 m q) s) ∧ (¬RegionPalette s a2 k2 → Refuses (.decrgnCi4 m q) s)

/-- R191: region decode is single-pixel decode: the Color of every decoded texel is the COLOR that DECPX returns with
OFFSET and SEL at the texel's address and selector. -/
def Obligations.RegionTexelsEqualPixelDecode : Prop :=
  ∀ (c : Codec) (m : ModeField) (q q' : SelField) (s t : State) (idx : Nat),
    exec (Instr.ofParts .decrgn c m q) s = .next t → idx < pixelCount s →
    TexelIn s (bytesNeeded c) (texelAddr c s.offset.toNat idx) → q'.toNat = texelSel c idx →
      ∃ u, exec (Instr.ofParts .decpx c m q')
            { s with offset := BitVec.ofNat 32 (texelAddr c s.offset.toNat idx) } = .next u ∧
        u.color.toNat = bmpNo t idx

/-- R192: once a texel of a region is skipped for a short source, every later one is, and none of them is an error:
STATUS is 0 and they hold what they held. -/
def Obligations.ShortSourceSkipsTheTail : Prop :=
  ∀ (c : Codec) (m : ModeField) (q : SelField) (s t : State) (idx later : Nat),
    exec (Instr.ofParts .decrgn c m q) s = .next t → idx < pixelCount s →
    ¬TexelIn s (bytesNeeded c) (texelAddr c s.offset.toNat idx) → idx ≤ later →
      t.status = 0 ∧ t.readTexel idx = s.readTexel idx ∧ t.readTexel later = s.readTexel later

/-- R194: a DECRGN completes exactly when the listed conditions hold, and is refused otherwise. A region with no pixel,
and a region that starts at or past the end of the source buffer, are no errors: STATUS is 0 and nothing else
changes. -/
def Obligations.DecrgnAdmission : Prop :=
  ∀ (c : Codec) (m : ModeField) (q : SelField) (s : State),
    let i := Instr.ofParts .decrgn c m q
    let admitted :=
      pixelCount s ≤ s.caps.bmpCap ∧ s.srcLen.toNat ≤ s.caps.srcCap ∧ ((c = .i8 ∨ c = .i4) → modeNo m ≤ 2) ∧
        (c = .ci8 →
          RegionPalette s (fun idx => s.offset.toNat + idx) fun idx => srcNo s (s.offset.toNat + idx)) ∧
        (c = .ci4 →
          RegionPalette s (fun idx => s.offset.toNat + idx / 2) fun idx =>
            nibNo (srcNo s (s.offset.toNat + idx / 2)) (idx % 2))
    (admitted → ∃ t, exec i s = .next t) ∧ (¬admitted → Refuses i s) ∧
      (admitted → s.width = 0 ∨ s.height = 0 ∨ s.srcLen.toNat ≤ s.offset.toNat →
        exec i s = .next { s with status := 0 })

/-! ## Quantization -/

/-- R228: decoding then encoding a channel gives the code back, and encoding then decoding a byte errs by the stated
bounds, -5 exactly at the six stated bytes. -/
def Obligations.QuantizationLaws : Prop :=
  (∀ q, dn5 (up5 q) = q) ∧ (∀ q, dn4 (up4 q) = q) ∧ (∀ q, dn3 (up3 q) = q) ∧
    (∀ v : Byte, v.toNat ≤ (up5 (dn5 v)).toNat + 5 ∧ (up5 (dn5 v)).toNat ≤ v.toNat + 4 ∧
      ((up5 (dn5 v)).toNat + 5 = v.toNat ↔ v.toNat ∈ [37, 70, 111, 144, 185, 218])) ∧
    (∀ v : Byte, v.toNat ≤ (up4 (dn4 v)).toNat + 16 ∧ (up4 (dn4 v)).toNat ≤ v.toNat) ∧
    ∀ v : Byte, v.toNat ≤ (up3 (dn3 v)).toNat + 35 ∧ (up3 (dn3 v)).toNat ≤ v.toNat + 3

/-! ## ENC -/

/-- R243, R244, R245: ENC.RGBA16, ENC.RGBA32 and ENC.IA16, every byte of every texel. -/
def Obligations.EncMultiByteTexels : Prop :=
  ∀ (m : ModeField) (q : SelField) (s : State), BitmapFits s →
    (∃ t, Runs 0x05 (.encRgba16 m q) s t ∧ EncPlain s t (2 * pixelCount s) ∧
        ∀ idx, idx < pixelCount s →
          outNo t (2 * idx) = rawNo s idx / 256 ∧ outNo t (2 * idx + 1) = rawNo s idx % 256) ∧
      (∃ t, Runs 0x15 (.encRgba32 m q) s t ∧ EncPlain s t (4 * pixelCount s) ∧
        ∀ idx, idx < pixelCount s →
          t.readByte .out (4 * idx) = (s.readTexel idx).r ∧ t.readByte .out (4 * idx + 1) = (s.readTexel idx).g ∧
            t.readByte .out (4 * idx + 2) = (s.readTexel idx).b ∧
            t.readByte .out (4 * idx + 3) = (s.readTexel idx).a) ∧
      ∃ t, Runs 0x25 (.encIa16 m q) s t ∧ EncPlain s t (2 * pixelCount s) ∧
        ∀ idx, idx < pixelCount s →
          outNo t (2 * idx) = meanNo s idx ∧ outNo t (2 * idx + 1) = alphaOfTexel s idx

/-- R246, R248: ENC.IA8 and ENC.I8, one byte per texel; I8 ignores alpha. -/
def Obligations.EncOneByteTexels : Prop :=
  ∀ (m : ModeField) (q : SelField) (s : State), BitmapFits s →
    (∃ t, Runs 0x35 (.encIa8 m q) s t ∧ EncPlain s t (pixelCount s) ∧
        ∀ idx, idx < pixelCount s → outNo t idx = meanNo s idx / 17 * 16 + alphaOfTexel s idx / 17) ∧
      ∃ t, Runs 0x55 (.encI8 m q) s t ∧ EncPlain s t (pixelCount s) ∧
        ∀ idx, idx < pixelCount s → outNo t idx = meanNo s idx

/-- R247, R249: ENC.IA4 and ENC.I4, two texels to a byte, the last low nibble of an odd count 0. -/
def Obligations.EncNibbleTexels : Prop :=
  ∀ (m : ModeField) (q : SelField) (s : State), BitmapFits s →
    (∃ t, Runs 0x45 (.encIa4 m q) s t ∧ EncPlain s t ((pixelCount s + 1) / 2) ∧
        ∀ k, k < (pixelCount s + 1) / 2 →
          outNo t k =
            packedNibbles (pixelCount s)
              (fun idx => meanNo s idx / 36 * 2 + (if 0 < alphaOfTexel s idx then 1 else 0)) k) ∧
      ∃ t, Runs 0x65 (.encI4 m q) s t ∧ EncPlain s t ((pixelCount s + 1) / 2) ∧
        ∀ k, k < (pixelCount s + 1) / 2 →
          outNo t k = packedNibbles (pixelCount s) (fun idx => meanNo s idx / 17) k

/-- R252: ENC.ONEBPP, eight texels to a byte, bit 7 first, a texel on unless R, G and B are all 0, the unused low bits
of the last byte 0. -/
def Obligations.EncOneBppTexels : Prop :=
  ∀ (m : ModeField) (q : SelField) (s : State), BitmapFits s →
    ∃ t, Runs 0x95 (.encOneBpp m q) s t ∧ EncPlain s t ((pixelCount s + 7) / 8) ∧
      ∀ k j, k < (pixelCount s + 7) / 8 → j < 8 →
        (outNo t k / 2 ^ (7 - j) % 2 = 1 ↔
          8 * k + j < pixelCount s ∧
            0 < (s.readTexel (8 * k + j)).r.toNat + (s.readTexel (8 * k + j)).g.toNat +
              (s.readTexel (8 * k + j)).b.toNat)

/-- R250: ENC.CI8: one palette index per byte, the palette of the first 256 distinct raw values in OPAL, 512 bytes. -/
def Obligations.EncCi8BuildsPalette : Prop :=
  ∀ (m : ModeField) (q : SelField) (s : State), BitmapFits s →
    ∃ t, Runs 0x75 (.encCi8 m q) s t ∧ EncFrame s t (pixelCount s) 512 ∧ PaletteDone s t 256 ∧
      ∀ idx, idx < pixelCount s → IndexFor s 256 idx (outNo t idx)

/-- R251: ENC.CI4: two palette indices per byte, the palette of the first 16 distinct raw values in OPAL, 32 bytes. -/
def Obligations.EncCi4BuildsPalette : Prop :=
  ∀ (m : ModeField) (q : SelField) (s : State), BitmapFits s →
    ∃ t, Runs 0x85 (.encCi4 m q) s t ∧ EncFrame s t ((pixelCount s + 1) / 2) 32 ∧ PaletteDone s t 16 ∧
      (∀ idx, idx < pixelCount s → IndexFor s 16 idx (nibNo (outNo t (idx / 2)) (idx % 2))) ∧
      (pixelCount s % 2 = 1 → outNo t (pixelCount s / 2) % 16 = 0)

/-- R242: an ENC completes exactly when the bitmap fits BMP, and is refused otherwise. -/
def Obligations.EncAdmission : Prop :=
  ∀ (c : Codec) (m : ModeField) (q : SelField) (s : State),
    (pixelCount s ≤ s.caps.bmpCap → ∃ t, exec (Instr.ofParts .enc c m q) s = .next t) ∧
      (s.caps.bmpCap < pixelCount s → Refuses (Instr.ofParts .enc c m q) s)

/-- R242: a bitmap with no pixel is no error: OUTLEN, PCOUNT, EXHCNT and STATUS are 0, and for CI8 and CI4 the palette
is still delivered, all zero, 512 or 32 bytes. -/
def Obligations.EmptyBitmapsAreNoErrors : Prop :=
  ∀ (c : Codec) (m : ModeField) (q : SelField) (s : State), s.width = 0 ∨ s.height = 0 →
    ∃ t, exec (Instr.ofParts .enc c m q) s = .next t ∧ t.outLen = 0 ∧ t.pCount = 0 ∧ t.exhCnt = 0 ∧ t.status = 0 ∧
      t.opalLen.toNat = (if c = .ci8 then 512 else if c = .ci4 then 32 else 0) ∧
      ∀ a, a < t.opalLen.toNat → opalNo t a = 0

/-- R240, R234: what an ENC delivers depends on the geometry and the bitmap's texels and on nothing else: no other
register, no memory but BMP, no earlier palette. -/
def Obligations.EncDependsOnBitmapOnly : Prop :=
  ∀ (c : Codec) (m m' : ModeField) (q q' : SelField) (s s' t : State),
    s'.width = s.width → s'.height = s.height → s'.caps.bmpCap = s.caps.bmpCap →
    (∀ idx, idx < pixelCount s → s'.readTexel idx = s.readTexel idx) →
    exec (Instr.ofParts .enc c m q) s = .next t →
      ∃ t', exec (Instr.ofParts .enc c m' q') s' = .next t' ∧ t'.outLen = t.outLen ∧ t'.opalLen = t.opalLen ∧
        t'.pCount = t.pCount ∧ t'.exhCnt = t.exhCnt ∧ t'.status = t.status ∧
        (∀ a, a < t.outLen.toNat → t'.readByte .out a = t.readByte .out a) ∧
        ∀ a, a < t.opalLen.toNat → t'.readByte .opal a = t.readByte .opal a

/-! ## Round trips -/

/-- R263, R244: RGBA32 is lossless: decoding what an encode left gives every pixel's Color back. -/
def Obligations.Rgba32RoundTripIsLossless : Prop :=
  ∀ (m m' : ModeField) (q q' : SelField) (s t u : State),
    exec (.encRgba32 m q) s = .next t → CopiedBack t u →
      ∃ v, exec (.decrgnRgba32 m' q') u = .next v ∧
        ∀ idx, idx < pixelCount s → v.readTexel idx = s.readTexel idx

/-- R263: RGBA16 gives each of R, G, B back within -5 to +4 and alpha 255 if it was above 0, else 0. -/
def Obligations.Rgba16RoundTripIsClose : Prop :=
  ∀ (m m' : ModeField) (q q' : SelField) (s t u : State),
    exec (.encRgba16 m q) s = .next t → CopiedBack t u →
      ∃ v, exec (.decrgnRgba16 m' q') u = .next v ∧
        ∀ idx, idx < pixelCount s →
          (∀ p : Color → Byte, p = Color.r ∨ p = Color.g ∨ p = Color.b →
            (p (s.readTexel idx)).toNat ≤ (p (v.readTexel idx)).toNat + 5 ∧
              (p (v.readTexel idx)).toNat ≤ (p (s.readTexel idx)).toNat + 4) ∧
            (v.readTexel idx).a.toNat = (if 0 < alphaOfTexel s idx then 255 else 0)

/-- R263: IA8 gives the mean in all three channels and alpha, each reduced to a multiple of 17. -/
def Obligations.Ia8RoundTripKeepsMultiplesOf17 : Prop :=
  ∀ (m m' : ModeField) (q q' : SelField) (s t u : State),
    exec (.encIa8 m q) s = .next t → CopiedBack t u →
      ∃ v, exec (.decrgnIa8 m' q') u = .next v ∧
        ∀ idx, idx < pixelCount s →
          bmpNo v idx = greyNo (17 * (alphaOfTexel s idx / 17)) (17 * (meanNo s idx / 17))

/-- R263, R232: CI8 and CI4 give, for a pixel whose raw value is in the palette, the Color of its RGBA16 value, and for
a pixel past capacity the Color of entry 0. -/
def Obligations.PaletteRoundTrip : Prop :=
  ∀ (m m' : ModeField) (q q' : SelField) (s t u : State) (cap : Nat) (enc dec : Instr),
    (cap = 256 ∧ enc = .encCi8 m q ∧ dec = .decrgnCi8 m' q' ∨ cap = 16 ∧ enc = .encCi4 m q ∧ dec = .decrgnCi4 m' q') →
    exec enc s = .next t → CopiedBack t u → PaletteCopiedBack t u →
      ∃ v, exec dec u = .next v ∧
        ∀ idx, idx < pixelCount s →
          bmpNo v idx =
            if rawNo s idx ∈ paletteOf s cap then rgba16No (rawNo s idx / 256) (rawNo s idx % 256)
            else rgba16No (rawNo s 0 / 256) (rawNo s 0 % 256)

/-! ## Whole-machine rules -/

/-- R21, R26 to R31, R40, R41: no command writes an operand register, SRC or PAL, the capacities, or what belongs to the
host. -/
def Obligations.CommandsNeverWriteOperands : Prop :=
  ∀ (i : Instr) (s t : State), exec i s = .next t →
    t.offset = s.offset ∧ t.width = s.width ∧ t.height = s.height ∧ t.pixCount = s.pixCount ∧ t.srcLen = s.srcLen ∧
      t.palLen = s.palLen ∧ t.src = s.src ∧ t.pal = s.pal ∧ t.caps = s.caps ∧ t.host = s.host ∧
      t.hostData = s.hostData

/-- R21, R323: each result register and memory is written by its own operation alone: FMTINFO by FMT, BYTECOUNT by P2B,
COLOR by DECPX, BMP by DECRGN, and OUT, OUTLEN, OPAL, OPALLEN, PCOUNT, EXHCNT by ENC. -/
def Obligations.ResultsBelongToTheirOperation : Prop :=
  ∀ (i : Instr) (s t : State), exec i s = .next t →
    (i.op ≠ .fmt → t.fmtInfo = s.fmtInfo) ∧ (i.op ≠ .p2b → t.byteCount = s.byteCount) ∧
      (i.op ≠ .decpx → t.color = s.color) ∧ (i.op ≠ .decrgn → ∀ a, t.readTexel a = s.readTexel a) ∧
      (i.op ≠ .enc →
        t.outLen = s.outLen ∧ t.opalLen = s.opalLen ∧ t.pCount = s.pCount ∧ t.exhCnt = s.exhCnt ∧
          ∀ a, t.readByte .out a = s.readByte .out a ∧ t.readByte .opal a = s.readByte .opal a)

/-- R25, R260: every instruction that completes writes STATUS: 4 exactly when it is an ENC of CI8 or CI4 that counted
exhausted pixels, else 0. Exhaustion never stops an ENC: whatever the texels, it completes when the bitmap fits. -/
def Obligations.StatusAfterEveryCommand : Prop :=
  (∀ (i : Instr) (s t : State), exec i s = .next t →
      t.status = (if i.op = .enc ∧ indexed i.codec = true ∧ 0 < t.exhCnt.toNat then 4 else 0) ∧
        (i.op = .enc → indexed i.codec = false → t.exhCnt = 0)) ∧
    ∀ (i : Instr) (s : State), i.op = .enc → BitmapFits s → ∃ t, exec i s = .next t

/-- R280, R284: an instruction completes or is refused for one of the spec's reasons; it never faults and is never left
without a meaning. -/
def Obligations.CommandsCompleteOrAreRefused : Prop :=
  ∀ (i : Instr) (s : State),
    (∃ t, exec i s = .next t) ∨
      ∃ r, exec i s = .refused r ∧
        r ∈ [Refusal.reservedMode, .reservedSelector, .paletteBounds, .bitmapCapacity, .sourceCapacity, .paletteCapacity,
          .sourceBounds] ∧
        (i.op ≠ .fmt ∧ i.op ≠ .p2b)

/-- 92_eei_decisions.md D29: the capacities of an engine never change. -/
def Obligations.CapacitiesNeverChange : Prop := ∀ s t : State, step s = .next t → t.caps = s.caps

/-- 00_scope.md R7: the capacities of the engine after reset are within the spec's bounds, whatever they are. -/
def Obligations.ResetCapacitiesAreAdmitted : Prop := State.reset.caps.ok

/-! ## Invariants -/

/-- The state after reset meets the three invariants. -/
def Obligations.ResetMeetsInvariants : Prop :=
  MemoryInv State.reset ∧ ResultInv State.reset ∧ PaletteInv State.reset

/-- Every step, of any host access or command, keeps the canonical form of the memories and writes no location that
does not exist. -/
def Obligations.StepKeepsMemoryForm : Prop := ∀ s t : State, MemoryInv s → step s = .next t → MemoryInv t

/-- Every step keeps the result registers within the values the spec gives them, and exactly the bytes of OUT and OPAL
below OUTLEN and OPALLEN defined. -/
def Obligations.StepKeepsResultRegisters : Prop := ∀ s t : State, ResultInv s → step s = .next t → ResultInv t

/-- R235, R233: every step keeps the output palette's entries distinct, its unused part zero, and exhaustion only with
a full palette. -/
def Obligations.StepKeepsPaletteDistinct : Prop :=
  ∀ s t : State, PaletteInv s → step s = .next t → PaletteInv t
end

