-- ==== Sys2Proof/Laws/Loops.lean ====
section
/-! SUPPORT. What the loops over pixels do: an induction rule, a frame rule, and the meaning of the two searches. -/

namespace Sys2Proof.Machine

variable {σ : Type}

@[simp] theorem ascending_zero (f : Nat → σ → σ) (z : σ) : ascending 0 f z = z := rfl

@[simp] theorem ascending_succ (n : Nat) (f : Nat → σ → σ) (z : σ) :
    ascending (n + 1) f z = f n (ascending n f z) := rfl

/-- What holds at the start and is carried from each round to the next holds at the end. -/
theorem ascending_induct {n : Nat} {f : Nat → σ → σ} {z : σ} (P : Nat → σ → Prop) (start : P 0 z)
    (round : ∀ k, k < n → ∀ x, P k x → P (k + 1) (f k x)) : P n (ascending n f z) := by
  induction n with
  | zero => exact start
  | succ n ih =>
    exact round n (Nat.lt_succ_self n) _ (ih fun k hk => round k (Nat.lt_succ_of_lt hk))

/-- Two loops side by side. -/
theorem ascending_rel {τ : Type} {n : Nat} {f : Nat → σ → σ} {g : Nat → τ → τ} {z : σ} {y : τ}
    (R : Nat → σ → τ → Prop) (start : R 0 z y)
    (round : ∀ k, k < n → ∀ x w, R k x w → R (k + 1) (f k x) (g k w)) :
    R n (ascending n f z) (ascending n g y) := by
  induction n with
  | zero => exact start
  | succ n ih =>
    exact round n (Nat.lt_succ_self n) _ _ (ih fun k hk => round k (Nat.lt_succ_of_lt hk))

theorem allBelow_iff (n : Nat) (p : Nat → Bool) : allBelow n p = true ↔ ∀ i, i < n → p i = true := by
  induction n with
  | zero => simp [allBelow]
  | succ n ih =>
    simp only [allBelow, Bool.and_eq_true, ih]
    constructor
    · rintro ⟨h, hn⟩ i hi
      obtain hi | rfl := Nat.lt_succ_iff_lt_or_eq.mp hi
      · exact h i hi
      · exact hn
    · intro h
      exact ⟨fun i hi => h i (by omega), h n (by omega)⟩

theorem firstBelow_some {n : Nat} {p : Nat → Bool} {j : Nat} (h : firstBelow n p = some j) :
    j < n ∧ p j = true := by
  induction n with
  | zero => simp [firstBelow] at h
  | succ n ih =>
    rw [firstBelow] at h
    cases hf : firstBelow n p with
    | some k =>
      rw [hf] at h
      obtain rfl : k = j := by simpa using h
      exact ⟨Nat.lt_succ_of_lt (ih hf).1, (ih hf).2⟩
    | none =>
      rw [hf] at h
      by_cases hp : p n = true
      · obtain rfl : n = j := by simpa [hp] using h
        exact ⟨Nat.lt_succ_self _, hp⟩
      · simp [hp] at h

theorem firstBelow_none_iff (n : Nat) (p : Nat → Bool) : firstBelow n p = none ↔ ∀ i, i < n → p i = false := by
  induction n with
  | zero => simp [firstBelow]
  | succ n ih =>
    rw [firstBelow, Option.or_eq_none_iff, ih]
    constructor
    · rintro ⟨h, hn⟩ i hi
      obtain hi | rfl := Nat.lt_succ_iff_lt_or_eq.mp hi
      · exact h i hi
      · simpa using hn
    · intro h
      exact ⟨fun i hi => h i (by omega), by simp [h n (by omega)]⟩

end Sys2Proof.Machine
end

