-- ==== Sys2Proof/Laws/Memory.lean ====
section
/-! SUPPORT. Memories: read after write, frames, and that every memory operation keeps the canonical form. -/

namespace Sys2Proof.Machine

variable {α : Type}

/-! ### The list of cells -/

theorem cellsGet_cellsSet (l : List (Nat × α)) (a b : Nat) (v : α) :
    cellsGet (cellsSet l a v) b = if b = a then some v else cellsGet l b := by
  induction l with
  | nil => simp [cellsSet, cellsGet, eq_comm]
  | cons c rest ih =>
    obtain ⟨k, w⟩ := c
    rw [cellsSet]
    split
    · simp [cellsGet, eq_comm]
    · split
      · rename_i h; subst h
        by_cases hb : b = a
        · simp [cellsGet, hb]
        · simp [cellsGet, hb, Ne.symm hb]
      · rename_i h1 h2
        by_cases hk : k = b
        · subst hk; simp [cellsGet, Ne.symm h2]
        · simp [cellsGet, hk, ih]

theorem mem_cellsSet {l : List (Nat × α)} {a : Nat} {v : α} {c : Nat × α} (h : c ∈ cellsSet l a v) :
    c = (a, v) ∨ c ∈ l := by
  induction l with
  | nil => left; simpa [cellsSet] using h
  | cons d rest ih =>
    obtain ⟨k, w⟩ := d
    rw [cellsSet] at h
    split at h
    · simpa using h
    · split at h
      · obtain h | h := List.mem_cons.mp h
        · exact .inl h
        · exact .inr (List.mem_cons_of_mem _ h)
      · obtain h | h := List.mem_cons.mp h
        · exact .inr (h ▸ List.mem_cons_self)
        · exact (ih h).imp_right (List.mem_cons_of_mem _)

theorem cellsSet_pairwise {l : List (Nat × α)} (h : l.Pairwise fun c d => c.1 < d.1) (a : Nat) (v : α) :
    (cellsSet l a v).Pairwise fun c d => c.1 < d.1 := by
  induction l with
  | nil => simp [cellsSet]
  | cons d rest ih =>
    obtain ⟨k, w⟩ := d
    obtain ⟨hk, hr⟩ := List.pairwise_cons.mp h
    rw [cellsSet]
    split
    · rename_i hlt
      refine List.pairwise_cons.mpr ⟨fun c hc => ?_, h⟩
      obtain rfl | hc := List.mem_cons.mp hc
      · exact hlt
      · exact lt_trans hlt (hk c hc)
    · split
      · rename_i he; subst he
        exact List.pairwise_cons.mpr ⟨hk, hr⟩
      · refine List.pairwise_cons.mpr ⟨fun c hc => ?_, ih hr⟩
        obtain rfl | hc := mem_cellsSet hc
        · simp only; omega
        · exact hk c hc

theorem cellsGet_isSome_iff (l : List (Nat × α)) (a : Nat) : (cellsGet l a).isSome = true ↔ a ∈ l.map Prod.fst := by
  induction l with
  | nil => simp [cellsGet]
  | cons d rest ih =>
    obtain ⟨k, w⟩ := d
    by_cases h : k = a
    · simp [cellsGet, h]
    · simp only [cellsGet, h, if_false, ih, List.map_cons, List.mem_cons, Ne.symm h, false_or]

/-- Writing a location that is listed lists no other one. -/
theorem cellsSet_keys {l : List (Nat × α)} (h : l.Pairwise fun c d => c.1 < d.1) {a : Nat}
    (ha : a ∈ l.map Prod.fst) (v : α) : (cellsSet l a v).map Prod.fst = l.map Prod.fst := by
  induction l with
  | nil => simp at ha
  | cons d rest ih =>
    obtain ⟨k, w⟩ := d
    obtain ⟨hk, hr⟩ := List.pairwise_cons.mp h
    rw [cellsSet]
    split
    · rename_i hlt
      exfalso
      obtain rfl | hm := List.mem_cons.mp ha
      · exact lt_irrefl _ hlt
      · obtain ⟨c, hc, rfl⟩ := List.mem_map.mp hm
        exact lt_asymm hlt (hk c hc)
    · split
      · rename_i he; subst he; rfl
      · rename_i hne
        rw [List.map_cons, List.map_cons, ih hr ((List.mem_cons.mp ha).resolve_left hne)]

theorem cellsGet_map_range (n a : Nat) (v : α) :
    cellsGet ((List.range n).map fun k => (k, v)) a = if a < n then some v else none := by
  have h : ∀ l : List Nat, cellsGet (l.map fun k => (k, v)) a = if a ∈ l then some v else none := by
    intro l
    induction l with
    | nil => rfl
    | cons k rest ih =>
      by_cases hk : k = a
      · simp [cellsGet, hk]
      · simp [cellsGet, hk, ih, Ne.symm hk]
  simpa using h (List.range n)

/-! ### Memories -/

@[simp] theorem Memory.written_write (m : Memory α) (a b : Nat) (v : α) :
    (m.write a v).written b = if b = a then some v else m.written b := cellsGet_cellsSet m.cells a b v

@[simp] theorem Memory.draw_write (m : Memory α) (a : Nat) (v : α) : (m.write a v).draw = m.draw := rfl

@[simp] theorem Memory.written_redraw (m : Memory α) (a : Nat) : m.redraw.written a = none := rfl

@[simp] theorem Memory.written_unwritten (a : Nat) : (Memory.unwritten (α := α)).written a = none := rfl

@[simp] theorem Memory.written_fresh (m : Memory α) (n a : Nat) (v : α) :
    (m.fresh n v).written a = if a < n then some v else none := cellsGet_map_range n a v

/-- Read after write: the written location holds the value, every other one what it held (20_memory.md R71). -/
theorem Memory.read_write (free : Nat → Nat → α) (m : Memory α) (a b : Nat) (v : α) :
    (m.write a v).read free b = if b = a then v else m.read free b := by
  simp only [Memory.read, Memory.written_write, Memory.draw_write]
  split <;> simp

theorem Memory.read_of_written {free : Nat → Nat → α} {m : Memory α} {a : Nat} {v : α} (h : m.written a = some v) :
    m.read free a = v := by simp [Memory.read, h]

theorem Memory.read_fresh (free : Nat → Nat → α) (m : Memory α) (n a : Nat) (v : α) (h : a < n) :
    (m.fresh n v).read free a = v := Memory.read_of_written (by simp [h])

theorem Memory.wf_write {m : Memory α} (h : m.wf) (a : Nat) (v : α) : (m.write a v).wf := cellsSet_pairwise h a v

theorem Memory.wf_redraw (m : Memory α) : m.redraw.wf := List.Pairwise.nil

theorem Memory.wf_unwritten : (Memory.unwritten (α := α)).wf := List.Pairwise.nil

theorem Memory.keys_fresh (m : Memory α) (n : Nat) (v : α) : (m.fresh n v).cells.map Prod.fst = List.range n := by
  simp [Memory.fresh, Function.comp_def]

theorem wf_of_keys_range {m : Memory α} {n : Nat} (h : m.cells.map Prod.fst = List.range n) : m.wf := by
  have : (m.cells.map Prod.fst).Pairwise (· < ·) := h ▸ List.pairwise_lt_range
  exact List.pairwise_map.mp this

theorem Memory.wf_fresh (m : Memory α) (n : Nat) (v : α) : (m.fresh n v).wf := wf_of_keys_range (m.keys_fresh n v)

/-- A write below the length of a buffer lists no location but those of the buffer. -/
theorem Memory.keys_write {m : Memory α} {n a : Nat} (h : m.cells.map Prod.fst = List.range n) (ha : a < n) (v : α) :
    (m.write a v).cells.map Prod.fst = List.range n := by
  rw [← h]
  exact cellsSet_keys (wf_of_keys_range h) (by rw [h]; simpa using ha) v

theorem Memory.isSome_written_of_keys {m : Memory α} {n a : Nat} (h : m.cells.map Prod.fst = List.range n)
    (ha : a < n) : (m.written a).isSome = true :=
  (cellsGet_isSome_iff m.cells a).mpr (by rw [h]; simpa using ha)

/-- A location that is written reads the same whatever the free values are. -/
theorem Memory.read_congr {free : Nat → Nat → α} {m m' : Memory α} {a : Nat} (h : m'.written a = m.written a)
    (hs : (m.written a).isSome = true) : m'.read free a = m.read free a := by
  obtain ⟨v, hv⟩ := Option.isSome_iff_exists.mp hs
  rw [Memory.read_of_written hv, Memory.read_of_written (h.trans hv)]

theorem Memory.mem_cells_write {m : Memory α} {a : Nat} {v : α} {c : Nat × α} (h : c ∈ (m.write a v).cells) :
    c.1 = a ∨ c ∈ m.cells := (mem_cellsSet h).imp_left fun h => by rw [h]

end Sys2Proof.Machine
end

