-- ==== Sys2Proof/Laws/State.lean ====
section
/-! SUPPORT. What each named update of the state leaves in each field, true by unfolding, so that no later proof unfolds
a record update. -/

namespace Sys2Proof.Machine

namespace State

variable (s : State)

@[simp] theorem fmt_status (c : Codec) : (s.fmt c).status = statusOk := rfl
@[simp] theorem fmt_offset (c : Codec) : (s.fmt c).offset = s.offset := rfl
@[simp] theorem fmt_width (c : Codec) : (s.fmt c).width = s.width := rfl
@[simp] theorem fmt_height (c : Codec) : (s.fmt c).height = s.height := rfl
@[simp] theorem fmt_pixCount (c : Codec) : (s.fmt c).pixCount = s.pixCount := rfl
@[simp] theorem fmt_srcLen (c : Codec) : (s.fmt c).srcLen = s.srcLen := rfl
@[simp] theorem fmt_palLen (c : Codec) : (s.fmt c).palLen = s.palLen := rfl
@[simp] theorem fmt_color (c : Codec) : (s.fmt c).color = s.color := rfl
@[simp] theorem fmt_byteCount (c : Codec) : (s.fmt c).byteCount = s.byteCount := rfl
@[simp] theorem fmt_fmtInfo (c : Codec) : (s.fmt c).fmtInfo = fmtWord c := rfl
@[simp] theorem fmt_outLen (c : Codec) : (s.fmt c).outLen = s.outLen := rfl
@[simp] theorem fmt_opalLen (c : Codec) : (s.fmt c).opalLen = s.opalLen := rfl
@[simp] theorem fmt_pCount (c : Codec) : (s.fmt c).pCount = s.pCount := rfl
@[simp] theorem fmt_exhCnt (c : Codec) : (s.fmt c).exhCnt = s.exhCnt := rfl
@[simp] theorem fmt_src (c : Codec) : (s.fmt c).src = s.src := rfl
@[simp] theorem fmt_pal (c : Codec) : (s.fmt c).pal = s.pal := rfl
@[simp] theorem fmt_bmp (c : Codec) : (s.fmt c).bmp = s.bmp := rfl
@[simp] theorem fmt_out (c : Codec) : (s.fmt c).out = s.out := rfl
@[simp] theorem fmt_opal (c : Codec) : (s.fmt c).opal = s.opal := rfl
@[simp] theorem fmt_caps (c : Codec) : (s.fmt c).caps = s.caps := rfl
@[simp] theorem fmt_host (c : Codec) : (s.fmt c).host = s.host := rfl
@[simp] theorem fmt_hostData (c : Codec) : (s.fmt c).hostData = s.hostData := rfl

@[simp] theorem pixelsToBytes_status (c : Codec) : (s.pixelsToBytes c).status = statusOk := rfl
@[simp] theorem pixelsToBytes_offset (c : Codec) : (s.pixelsToBytes c).offset = s.offset := rfl
@[simp] theorem pixelsToBytes_width (c : Codec) : (s.pixelsToBytes c).width = s.width := rfl
@[simp] theorem pixelsToBytes_height (c : Codec) : (s.pixelsToBytes c).height = s.height := rfl
@[simp] theorem pixelsToBytes_pixCount (c : Codec) : (s.pixelsToBytes c).pixCount = s.pixCount := rfl
@[simp] theorem pixelsToBytes_srcLen (c : Codec) : (s.pixelsToBytes c).srcLen = s.srcLen := rfl
@[simp] theorem pixelsToBytes_palLen (c : Codec) : (s.pixelsToBytes c).palLen = s.palLen := rfl
@[simp] theorem pixelsToBytes_color (c : Codec) : (s.pixelsToBytes c).color = s.color := rfl
@[simp] theorem pixelsToBytes_byteCount (c : Codec) : (s.pixelsToBytes c).byteCount = BitVec.ofNat 32 (p2b c s.pixCount.toNat) := rfl
@[simp] theorem pixelsToBytes_fmtInfo (c : Codec) : (s.pixelsToBytes c).fmtInfo = s.fmtInfo := rfl
@[simp] theorem pixelsToBytes_outLen (c : Codec) : (s.pixelsToBytes c).outLen = s.outLen := rfl
@[simp] theorem pixelsToBytes_opalLen (c : Codec) : (s.pixelsToBytes c).opalLen = s.opalLen := rfl
@[simp] theorem pixelsToBytes_pCount (c : Codec) : (s.pixelsToBytes c).pCount = s.pCount := rfl
@[simp] theorem pixelsToBytes_exhCnt (c : Codec) : (s.pixelsToBytes c).exhCnt = s.exhCnt := rfl
@[simp] theorem pixelsToBytes_src (c : Codec) : (s.pixelsToBytes c).src = s.src := rfl
@[simp] theorem pixelsToBytes_pal (c : Codec) : (s.pixelsToBytes c).pal = s.pal := rfl
@[simp] theorem pixelsToBytes_bmp (c : Codec) : (s.pixelsToBytes c).bmp = s.bmp := rfl
@[simp] theorem pixelsToBytes_out (c : Codec) : (s.pixelsToBytes c).out = s.out := rfl
@[simp] theorem pixelsToBytes_opal (c : Codec) : (s.pixelsToBytes c).opal = s.opal := rfl
@[simp] theorem pixelsToBytes_caps (c : Codec) : (s.pixelsToBytes c).caps = s.caps := rfl
@[simp] theorem pixelsToBytes_host (c : Codec) : (s.pixelsToBytes c).host = s.host := rfl
@[simp] theorem pixelsToBytes_hostData (c : Codec) : (s.pixelsToBytes c).hostData = s.hostData := rfl

@[simp] theorem putPixel_status (c : Color) : (s.putPixel c).status = statusOk := rfl
@[simp] theorem putPixel_offset (c : Color) : (s.putPixel c).offset = s.offset := rfl
@[simp] theorem putPixel_width (c : Color) : (s.putPixel c).width = s.width := rfl
@[simp] theorem putPixel_height (c : Color) : (s.putPixel c).height = s.height := rfl
@[simp] theorem putPixel_pixCount (c : Color) : (s.putPixel c).pixCount = s.pixCount := rfl
@[simp] theorem putPixel_srcLen (c : Color) : (s.putPixel c).srcLen = s.srcLen := rfl
@[simp] theorem putPixel_palLen (c : Color) : (s.putPixel c).palLen = s.palLen := rfl
@[simp] theorem putPixel_color (c : Color) : (s.putPixel c).color = colorToWord c := rfl
@[simp] theorem putPixel_byteCount (c : Color) : (s.putPixel c).byteCount = s.byteCount := rfl
@[simp] theorem putPixel_fmtInfo (c : Color) : (s.putPixel c).fmtInfo = s.fmtInfo := rfl
@[simp] theorem putPixel_outLen (c : Color) : (s.putPixel c).outLen = s.outLen := rfl
@[simp] theorem putPixel_opalLen (c : Color) : (s.putPixel c).opalLen = s.opalLen := rfl
@[simp] theorem putPixel_pCount (c : Color) : (s.putPixel c).pCount = s.pCount := rfl
@[simp] theorem putPixel_exhCnt (c : Color) : (s.putPixel c).exhCnt = s.exhCnt := rfl
@[simp] theorem putPixel_src (c : Color) : (s.putPixel c).src = s.src := rfl
@[simp] theorem putPixel_pal (c : Color) : (s.putPixel c).pal = s.pal := rfl
@[simp] theorem putPixel_bmp (c : Color) : (s.putPixel c).bmp = s.bmp := rfl
@[simp] theorem putPixel_out (c : Color) : (s.putPixel c).out = s.out := rfl
@[simp] theorem putPixel_opal (c : Color) : (s.putPixel c).opal = s.opal := rfl
@[simp] theorem putPixel_caps (c : Color) : (s.putPixel c).caps = s.caps := rfl
@[simp] theorem putPixel_host (c : Color) : (s.putPixel c).host = s.host := rfl
@[simp] theorem putPixel_hostData (c : Color) : (s.putPixel c).hostData = s.hostData := rfl

@[simp] theorem putBitmap_status (b : Memory Color) : (s.putBitmap b).status = statusOk := rfl
@[simp] theorem putBitmap_offset (b : Memory Color) : (s.putBitmap b).offset = s.offset := rfl
@[simp] theorem putBitmap_width (b : Memory Color) : (s.putBitmap b).width = s.width := rfl
@[simp] theorem putBitmap_height (b : Memory Color) : (s.putBitmap b).height = s.height := rfl
@[simp] theorem putBitmap_pixCount (b : Memory Color) : (s.putBitmap b).pixCount = s.pixCount := rfl
@[simp] theorem putBitmap_srcLen (b : Memory Color) : (s.putBitmap b).srcLen = s.srcLen := rfl
@[simp] theorem putBitmap_palLen (b : Memory Color) : (s.putBitmap b).palLen = s.palLen := rfl
@[simp] theorem putBitmap_color (b : Memory Color) : (s.putBitmap b).color = s.color := rfl
@[simp] theorem putBitmap_byteCount (b : Memory Color) : (s.putBitmap b).byteCount = s.byteCount := rfl
@[simp] theorem putBitmap_fmtInfo (b : Memory Color) : (s.putBitmap b).fmtInfo = s.fmtInfo := rfl
@[simp] theorem putBitmap_outLen (b : Memory Color) : (s.putBitmap b).outLen = s.outLen := rfl
@[simp] theorem putBitmap_opalLen (b : Memory Color) : (s.putBitmap b).opalLen = s.opalLen := rfl
@[simp] theorem putBitmap_pCount (b : Memory Color) : (s.putBitmap b).pCount = s.pCount := rfl
@[simp] theorem putBitmap_exhCnt (b : Memory Color) : (s.putBitmap b).exhCnt = s.exhCnt := rfl
@[simp] theorem putBitmap_src (b : Memory Color) : (s.putBitmap b).src = s.src := rfl
@[simp] theorem putBitmap_pal (b : Memory Color) : (s.putBitmap b).pal = s.pal := rfl
@[simp] theorem putBitmap_bmp (b : Memory Color) : (s.putBitmap b).bmp = b := rfl
@[simp] theorem putBitmap_out (b : Memory Color) : (s.putBitmap b).out = s.out := rfl
@[simp] theorem putBitmap_opal (b : Memory Color) : (s.putBitmap b).opal = s.opal := rfl
@[simp] theorem putBitmap_caps (b : Memory Color) : (s.putBitmap b).caps = s.caps := rfl
@[simp] theorem putBitmap_host (b : Memory Color) : (s.putBitmap b).host = s.host := rfl
@[simp] theorem putBitmap_hostData (b : Memory Color) : (s.putBitmap b).hostData = s.hostData := rfl

@[simp] theorem encDone_status (c : Codec) (e : EncBuf) : (s.encDone c e).status = statusEnc e.exhCnt := rfl
@[simp] theorem encDone_offset (c : Codec) (e : EncBuf) : (s.encDone c e).offset = s.offset := rfl
@[simp] theorem encDone_width (c : Codec) (e : EncBuf) : (s.encDone c e).width = s.width := rfl
@[simp] theorem encDone_height (c : Codec) (e : EncBuf) : (s.encDone c e).height = s.height := rfl
@[simp] theorem encDone_pixCount (c : Codec) (e : EncBuf) : (s.encDone c e).pixCount = s.pixCount := rfl
@[simp] theorem encDone_srcLen (c : Codec) (e : EncBuf) : (s.encDone c e).srcLen = s.srcLen := rfl
@[simp] theorem encDone_palLen (c : Codec) (e : EncBuf) : (s.encDone c e).palLen = s.palLen := rfl
@[simp] theorem encDone_color (c : Codec) (e : EncBuf) : (s.encDone c e).color = s.color := rfl
@[simp] theorem encDone_byteCount (c : Codec) (e : EncBuf) : (s.encDone c e).byteCount = s.byteCount := rfl
@[simp] theorem encDone_fmtInfo (c : Codec) (e : EncBuf) : (s.encDone c e).fmtInfo = s.fmtInfo := rfl
@[simp] theorem encDone_outLen (c : Codec) (e : EncBuf) : (s.encDone c e).outLen = BitVec.ofNat 32 (p2b c s.pixels) := rfl
@[simp] theorem encDone_opalLen (c : Codec) (e : EncBuf) : (s.encDone c e).opalLen = BitVec.ofNat 10 (2 * palCapOf c) := rfl
@[simp] theorem encDone_pCount (c : Codec) (e : EncBuf) : (s.encDone c e).pCount = BitVec.ofNat 9 e.pCount := rfl
@[simp] theorem encDone_exhCnt (c : Codec) (e : EncBuf) : (s.encDone c e).exhCnt = BitVec.ofNat 30 e.exhCnt := rfl
@[simp] theorem encDone_src (c : Codec) (e : EncBuf) : (s.encDone c e).src = s.src := rfl
@[simp] theorem encDone_pal (c : Codec) (e : EncBuf) : (s.encDone c e).pal = s.pal := rfl
@[simp] theorem encDone_bmp (c : Codec) (e : EncBuf) : (s.encDone c e).bmp = s.bmp := rfl
@[simp] theorem encDone_out (c : Codec) (e : EncBuf) : (s.encDone c e).out = e.out := rfl
@[simp] theorem encDone_opal (c : Codec) (e : EncBuf) : (s.encDone c e).opal = e.opal := rfl
@[simp] theorem encDone_caps (c : Codec) (e : EncBuf) : (s.encDone c e).caps = s.caps := rfl
@[simp] theorem encDone_host (c : Codec) (e : EncBuf) : (s.encDone c e).host = s.host := rfl
@[simp] theorem encDone_hostData (c : Codec) (e : EncBuf) : (s.encDone c e).hostData = s.hostData := rfl

@[simp] theorem raiseInvalidCodec_status : (s.raiseInvalidCodec).status = 1 := rfl
@[simp] theorem raiseInvalidCodec_offset : (s.raiseInvalidCodec).offset = s.offset := rfl
@[simp] theorem raiseInvalidCodec_width : (s.raiseInvalidCodec).width = s.width := rfl
@[simp] theorem raiseInvalidCodec_height : (s.raiseInvalidCodec).height = s.height := rfl
@[simp] theorem raiseInvalidCodec_pixCount : (s.raiseInvalidCodec).pixCount = s.pixCount := rfl
@[simp] theorem raiseInvalidCodec_srcLen : (s.raiseInvalidCodec).srcLen = s.srcLen := rfl
@[simp] theorem raiseInvalidCodec_palLen : (s.raiseInvalidCodec).palLen = s.palLen := rfl
@[simp] theorem raiseInvalidCodec_color : (s.raiseInvalidCodec).color = s.color := rfl
@[simp] theorem raiseInvalidCodec_byteCount : (s.raiseInvalidCodec).byteCount = s.byteCount := rfl
@[simp] theorem raiseInvalidCodec_fmtInfo : (s.raiseInvalidCodec).fmtInfo = s.fmtInfo := rfl
@[simp] theorem raiseInvalidCodec_outLen : (s.raiseInvalidCodec).outLen = s.outLen := rfl
@[simp] theorem raiseInvalidCodec_opalLen : (s.raiseInvalidCodec).opalLen = s.opalLen := rfl
@[simp] theorem raiseInvalidCodec_pCount : (s.raiseInvalidCodec).pCount = s.pCount := rfl
@[simp] theorem raiseInvalidCodec_exhCnt : (s.raiseInvalidCodec).exhCnt = s.exhCnt := rfl
@[simp] theorem raiseInvalidCodec_src : (s.raiseInvalidCodec).src = s.src := rfl
@[simp] theorem raiseInvalidCodec_pal : (s.raiseInvalidCodec).pal = s.pal := rfl
@[simp] theorem raiseInvalidCodec_bmp : (s.raiseInvalidCodec).bmp = s.bmp := rfl
@[simp] theorem raiseInvalidCodec_out : (s.raiseInvalidCodec).out = s.out := rfl
@[simp] theorem raiseInvalidCodec_opal : (s.raiseInvalidCodec).opal = s.opal := rfl
@[simp] theorem raiseInvalidCodec_caps : (s.raiseInvalidCodec).caps = s.caps := rfl
@[simp] theorem raiseInvalidCodec_host : (s.raiseInvalidCodec).host = s.host := rfl
@[simp] theorem raiseInvalidCodec_hostData : (s.raiseInvalidCodec).hostData = s.hostData := rfl

@[simp] theorem answer_status (v : Word) : (s.answer v).status = s.status := rfl
@[simp] theorem answer_offset (v : Word) : (s.answer v).offset = s.offset := rfl
@[simp] theorem answer_width (v : Word) : (s.answer v).width = s.width := rfl
@[simp] theorem answer_height (v : Word) : (s.answer v).height = s.height := rfl
@[simp] theorem answer_pixCount (v : Word) : (s.answer v).pixCount = s.pixCount := rfl
@[simp] theorem answer_srcLen (v : Word) : (s.answer v).srcLen = s.srcLen := rfl
@[simp] theorem answer_palLen (v : Word) : (s.answer v).palLen = s.palLen := rfl
@[simp] theorem answer_color (v : Word) : (s.answer v).color = s.color := rfl
@[simp] theorem answer_byteCount (v : Word) : (s.answer v).byteCount = s.byteCount := rfl
@[simp] theorem answer_fmtInfo (v : Word) : (s.answer v).fmtInfo = s.fmtInfo := rfl
@[simp] theorem answer_outLen (v : Word) : (s.answer v).outLen = s.outLen := rfl
@[simp] theorem answer_opalLen (v : Word) : (s.answer v).opalLen = s.opalLen := rfl
@[simp] theorem answer_pCount (v : Word) : (s.answer v).pCount = s.pCount := rfl
@[simp] theorem answer_exhCnt (v : Word) : (s.answer v).exhCnt = s.exhCnt := rfl
@[simp] theorem answer_src (v : Word) : (s.answer v).src = s.src := rfl
@[simp] theorem answer_pal (v : Word) : (s.answer v).pal = s.pal := rfl
@[simp] theorem answer_bmp (v : Word) : (s.answer v).bmp = s.bmp := rfl
@[simp] theorem answer_out (v : Word) : (s.answer v).out = s.out := rfl
@[simp] theorem answer_opal (v : Word) : (s.answer v).opal = s.opal := rfl
@[simp] theorem answer_caps (v : Word) : (s.answer v).caps = s.caps := rfl
@[simp] theorem answer_host (v : Word) : (s.answer v).host = s.host := rfl
@[simp] theorem answer_hostData (v : Word) : (s.answer v).hostData = v := rfl

@[simp] theorem writeTexel_status (a : Nat) (v : Word) : (s.writeTexel a v).status = s.status := rfl
@[simp] theorem writeTexel_offset (a : Nat) (v : Word) : (s.writeTexel a v).offset = s.offset := rfl
@[simp] theorem writeTexel_width (a : Nat) (v : Word) : (s.writeTexel a v).width = s.width := rfl
@[simp] theorem writeTexel_height (a : Nat) (v : Word) : (s.writeTexel a v).height = s.height := rfl
@[simp] theorem writeTexel_pixCount (a : Nat) (v : Word) : (s.writeTexel a v).pixCount = s.pixCount := rfl
@[simp] theorem writeTexel_srcLen (a : Nat) (v : Word) : (s.writeTexel a v).srcLen = s.srcLen := rfl
@[simp] theorem writeTexel_palLen (a : Nat) (v : Word) : (s.writeTexel a v).palLen = s.palLen := rfl
@[simp] theorem writeTexel_color (a : Nat) (v : Word) : (s.writeTexel a v).color = s.color := rfl
@[simp] theorem writeTexel_byteCount (a : Nat) (v : Word) : (s.writeTexel a v).byteCount = s.byteCount := rfl
@[simp] theorem writeTexel_fmtInfo (a : Nat) (v : Word) : (s.writeTexel a v).fmtInfo = s.fmtInfo := rfl
@[simp] theorem writeTexel_outLen (a : Nat) (v : Word) : (s.writeTexel a v).outLen = s.outLen := rfl
@[simp] theorem writeTexel_opalLen (a : Nat) (v : Word) : (s.writeTexel a v).opalLen = s.opalLen := rfl
@[simp] theorem writeTexel_pCount (a : Nat) (v : Word) : (s.writeTexel a v).pCount = s.pCount := rfl
@[simp] theorem writeTexel_exhCnt (a : Nat) (v : Word) : (s.writeTexel a v).exhCnt = s.exhCnt := rfl
@[simp] theorem writeTexel_src (a : Nat) (v : Word) : (s.writeTexel a v).src = s.src := rfl
@[simp] theorem writeTexel_pal (a : Nat) (v : Word) : (s.writeTexel a v).pal = s.pal := rfl
@[simp] theorem writeTexel_bmp (a : Nat) (v : Word) : (s.writeTexel a v).bmp = s.bmp.write a (colorOfWord v) := rfl
@[simp] theorem writeTexel_out (a : Nat) (v : Word) : (s.writeTexel a v).out = s.out := rfl
@[simp] theorem writeTexel_opal (a : Nat) (v : Word) : (s.writeTexel a v).opal = s.opal := rfl
@[simp] theorem writeTexel_caps (a : Nat) (v : Word) : (s.writeTexel a v).caps = s.caps := rfl
@[simp] theorem writeTexel_host (a : Nat) (v : Word) : (s.writeTexel a v).host = s.host := rfl
@[simp] theorem writeTexel_hostData (a : Nat) (v : Word) : (s.writeTexel a v).hostData = s.hostData := rfl

@[simp] theorem dropHost_status (rest : List HostOp) : (s.dropHost rest).status = s.status := rfl
@[simp] theorem dropHost_offset (rest : List HostOp) : (s.dropHost rest).offset = s.offset := rfl
@[simp] theorem dropHost_width (rest : List HostOp) : (s.dropHost rest).width = s.width := rfl
@[simp] theorem dropHost_height (rest : List HostOp) : (s.dropHost rest).height = s.height := rfl
@[simp] theorem dropHost_pixCount (rest : List HostOp) : (s.dropHost rest).pixCount = s.pixCount := rfl
@[simp] theorem dropHost_srcLen (rest : List HostOp) : (s.dropHost rest).srcLen = s.srcLen := rfl
@[simp] theorem dropHost_palLen (rest : List HostOp) : (s.dropHost rest).palLen = s.palLen := rfl
@[simp] theorem dropHost_color (rest : List HostOp) : (s.dropHost rest).color = s.color := rfl
@[simp] theorem dropHost_byteCount (rest : List HostOp) : (s.dropHost rest).byteCount = s.byteCount := rfl
@[simp] theorem dropHost_fmtInfo (rest : List HostOp) : (s.dropHost rest).fmtInfo = s.fmtInfo := rfl
@[simp] theorem dropHost_outLen (rest : List HostOp) : (s.dropHost rest).outLen = s.outLen := rfl
@[simp] theorem dropHost_opalLen (rest : List HostOp) : (s.dropHost rest).opalLen = s.opalLen := rfl
@[simp] theorem dropHost_pCount (rest : List HostOp) : (s.dropHost rest).pCount = s.pCount := rfl
@[simp] theorem dropHost_exhCnt (rest : List HostOp) : (s.dropHost rest).exhCnt = s.exhCnt := rfl
@[simp] theorem dropHost_src (rest : List HostOp) : (s.dropHost rest).src = s.src := rfl
@[simp] theorem dropHost_pal (rest : List HostOp) : (s.dropHost rest).pal = s.pal := rfl
@[simp] theorem dropHost_bmp (rest : List HostOp) : (s.dropHost rest).bmp = s.bmp := rfl
@[simp] theorem dropHost_out (rest : List HostOp) : (s.dropHost rest).out = s.out := rfl
@[simp] theorem dropHost_opal (rest : List HostOp) : (s.dropHost rest).opal = s.opal := rfl
@[simp] theorem dropHost_caps (rest : List HostOp) : (s.dropHost rest).caps = s.caps := rfl
@[simp] theorem dropHost_host (rest : List HostOp) : (s.dropHost rest).host = rest := rfl
@[simp] theorem dropHost_hostData (rest : List HostOp) : (s.dropHost rest).hostData = s.hostData := rfl

@[simp] theorem pushHost_status (op : HostOp) : (s.pushHost op).status = s.status := rfl
@[simp] theorem pushHost_offset (op : HostOp) : (s.pushHost op).offset = s.offset := rfl
@[simp] theorem pushHost_width (op : HostOp) : (s.pushHost op).width = s.width := rfl
@[simp] theorem pushHost_height (op : HostOp) : (s.pushHost op).height = s.height := rfl
@[simp] theorem pushHost_pixCount (op : HostOp) : (s.pushHost op).pixCount = s.pixCount := rfl
@[simp] theorem pushHost_srcLen (op : HostOp) : (s.pushHost op).srcLen = s.srcLen := rfl
@[simp] theorem pushHost_palLen (op : HostOp) : (s.pushHost op).palLen = s.palLen := rfl
@[simp] theorem pushHost_color (op : HostOp) : (s.pushHost op).color = s.color := rfl
@[simp] theorem pushHost_byteCount (op : HostOp) : (s.pushHost op).byteCount = s.byteCount := rfl
@[simp] theorem pushHost_fmtInfo (op : HostOp) : (s.pushHost op).fmtInfo = s.fmtInfo := rfl
@[simp] theorem pushHost_outLen (op : HostOp) : (s.pushHost op).outLen = s.outLen := rfl
@[simp] theorem pushHost_opalLen (op : HostOp) : (s.pushHost op).opalLen = s.opalLen := rfl
@[simp] theorem pushHost_pCount (op : HostOp) : (s.pushHost op).pCount = s.pCount := rfl
@[simp] theorem pushHost_exhCnt (op : HostOp) : (s.pushHost op).exhCnt = s.exhCnt := rfl
@[simp] theorem pushHost_src (op : HostOp) : (s.pushHost op).src = s.src := rfl
@[simp] theorem pushHost_pal (op : HostOp) : (s.pushHost op).pal = s.pal := rfl
@[simp] theorem pushHost_bmp (op : HostOp) : (s.pushHost op).bmp = s.bmp := rfl
@[simp] theorem pushHost_out (op : HostOp) : (s.pushHost op).out = s.out := rfl
@[simp] theorem pushHost_opal (op : HostOp) : (s.pushHost op).opal = s.opal := rfl
@[simp] theorem pushHost_caps (op : HostOp) : (s.pushHost op).caps = s.caps := rfl
@[simp] theorem pushHost_host (op : HostOp) : (s.pushHost op).host = op :: s.host := rfl
@[simp] theorem pushHost_hostData (op : HostOp) : (s.pushHost op).hostData = s.hostData := rfl

@[simp] theorem doReset_status : (s.doReset).status = 0 := rfl
@[simp] theorem doReset_offset : (s.doReset).offset = 0 := rfl
@[simp] theorem doReset_width : (s.doReset).width = 0 := rfl
@[simp] theorem doReset_height : (s.doReset).height = 0 := rfl
@[simp] theorem doReset_pixCount : (s.doReset).pixCount = 0 := rfl
@[simp] theorem doReset_srcLen : (s.doReset).srcLen = 0 := rfl
@[simp] theorem doReset_palLen : (s.doReset).palLen = 0 := rfl
@[simp] theorem doReset_color : (s.doReset).color = 0 := rfl
@[simp] theorem doReset_byteCount : (s.doReset).byteCount = 0 := rfl
@[simp] theorem doReset_fmtInfo : (s.doReset).fmtInfo = 0 := rfl
@[simp] theorem doReset_outLen : (s.doReset).outLen = 0 := rfl
@[simp] theorem doReset_opalLen : (s.doReset).opalLen = 0 := rfl
@[simp] theorem doReset_pCount : (s.doReset).pCount = 0 := rfl
@[simp] theorem doReset_exhCnt : (s.doReset).exhCnt = 0 := rfl
@[simp] theorem doReset_src : (s.doReset).src = s.src.redraw := rfl
@[simp] theorem doReset_pal : (s.doReset).pal = s.pal.redraw := rfl
@[simp] theorem doReset_bmp : (s.doReset).bmp = s.bmp.redraw := rfl
@[simp] theorem doReset_out : (s.doReset).out = s.out.redraw := rfl
@[simp] theorem doReset_opal : (s.doReset).opal = s.opal.redraw := rfl
@[simp] theorem doReset_caps : (s.doReset).caps = s.caps := rfl
@[simp] theorem doReset_host : (s.doReset).host = s.host := rfl
@[simp] theorem doReset_hostData : (s.doReset).hostData = s.hostData := rfl

end State

end Sys2Proof.Machine
end

