-- ==== Sys2Proof/Laws/Command.lean ====
section
/-! SUPPORT. What each command can do, said once: where it completes and in which state, and the same for `exec` and
`step`. Later proofs cite these and unfold no meaning. -/

namespace Sys2Proof.Machine

/-! ### Instructions by their parts -/

@[simp] theorem ofParts_self (i : Instr) : Instr.ofParts i.op i.codec i.mode i.sel = i := by cases i <;> rfl

@[simp] theorem op_ofParts (op : Op) (c : Codec) (m : ModeField) (q : SelField) :
    (Instr.ofParts op c m q).op = op := by cases op <;> cases c <;> rfl

@[simp] theorem codec_ofParts (op : Op) (c : Codec) (m : ModeField) (q : SelField) :
    (Instr.ofParts op c m q).codec = c := by cases op <;> cases c <;> rfl

@[simp] theorem mode_ofParts (op : Op) (c : Codec) (m : ModeField) (q : SelField) :
    (Instr.ofParts op c m q).mode = m := by cases op <;> cases c <;> rfl

@[simp] theorem sel_ofParts (op : Op) (c : Codec) (m : ModeField) (q : SelField) :
    (Instr.ofParts op c m q).sel = q := by cases op <;> cases c <;> rfl

theorem exec_fmt (c : Codec) (m : ModeField) (q : SelField) (s : State) :
    exec (Instr.ofParts .fmt c m q) s = .next (s.fmt c) := by cases c <;> rfl

theorem exec_p2b (c : Codec) (m : ModeField) (q : SelField) (s : State) :
    exec (Instr.ofParts .p2b c m q) s = .next (s.pixelsToBytes c) := by cases c <;> rfl

theorem exec_decpx (c : Codec) (m : ModeField) (q : SelField) (s : State) :
    exec (Instr.ofParts .decpx c m q) s = s.decpx c m q := by cases c <;> rfl

theorem exec_decrgn (c : Codec) (m : ModeField) (q : SelField) (s : State) :
    exec (Instr.ofParts .decrgn c m q) s = s.decrgn c m := by cases c <;> rfl

theorem exec_enc (c : Codec) (m : ModeField) (q : SelField) (s : State) :
    exec (Instr.ofParts .enc c m q) s = s.enc c := by cases c <;> rfl

/-! ### Bounds -/

@[simp] theorem inSource_iff (s : State) (c : Codec) (a : Nat) :
    s.inSource c a = true ↔ a + need c - 1 < s.srcLen.toNat := decide_eq_true_iff

@[simp] theorem inPalette_iff (s : State) (k : Nat) : s.inPalette k = true ↔ 2 * k + 1 < s.palLen.toNat :=
  decide_eq_true_iff

@[simp] theorem regionInSource_iff (s : State) (c : Codec) (idx : Nat) :
    s.regionInSource c idx = true ↔ texelAddr c s.offset.toNat idx + need c - 1 < s.srcLen.toNat := decide_eq_true_iff

@[simp] theorem regionPaletteOk_iff (s : State) (c : Codec) (idx : Nat) :
    s.regionPaletteOk c idx = true ↔
      (s.regionInSource c idx = true →
        s.inPalette (s.texelIndex c (texelAddr c s.offset.toNat idx) (texelSel c idx)) = true) := by
  unfold State.regionPaletteOk
  cases s.regionInSource c idx <;> simp

/-! ### Where the commands with conditions complete -/

/-- DECPX completes exactly under the conditions of 41_decode_pixel.md R159. -/
theorem decpxRefusal_eq_none_iff (s : State) (c : Codec) (m : ModeField) (q : SelField) :
    s.decpxRefusal c m q = none ↔
      (readsMode c = true → m ≠ none) ∧ (packClass c = .nibble → q.toNat ≤ 1) ∧ s.srcLen.toNat ≤ s.caps.srcCap ∧
        s.inSource c s.offset.toNat = true ∧
        (needsPalette c = true → s.palLen.toNat ≤ s.caps.palCap ∧
          s.inPalette (s.texelIndex c s.offset.toNat q.toNat) = true) := by
  unfold State.decpxRefusal
  split_ifs <;> simp_all [-inSource_iff, -inPalette_iff]

theorem decpx_next_iff (s t : State) (c : Codec) (m : ModeField) (q : SelField) :
    s.decpx c m q = .next t ↔ s.decpxRefusal c m q = none ∧ t = s.putPixel (s.decpxColor c m q) := by
  unfold State.decpx
  cases s.decpxRefusal c m q <;> simp [eq_comm]

/-- DECRGN completes exactly under the conditions of 42_decode_region.md R194. -/
theorem decrgnRefusal_eq_none_iff (s : State) (c : Codec) (m : ModeField) :
    s.decrgnRefusal c m = none ↔
      (readsMode c = true → m ≠ none) ∧ s.pixels ≤ s.caps.bmpCap ∧ s.srcLen.toNat ≤ s.caps.srcCap ∧
        (needsPalette c = true → s.palLen.toNat ≤ s.caps.palCap ∧
          ∀ idx, idx < s.pixels → s.regionPaletteOk c idx = true) := by
  unfold State.decrgnRefusal
  simp only [← allBelow_iff]
  split_ifs <;> simp_all

theorem decrgn_next_iff (s t : State) (c : Codec) (m : ModeField) :
    s.decrgn c m = .next t ↔
      s.decrgnRefusal c m = none ∧ t = s.putBitmap (ascending s.pixels (s.regionTexel c m) s.bmp) := by
  unfold State.decrgn
  cases s.decrgnRefusal c m <;> simp [eq_comm]

/-- ENC completes exactly when the bitmap fits (43_encode.md R242). -/
theorem enc_next_iff (s t : State) (c : Codec) :
    s.enc c = .next t ↔ s.pixels ≤ s.caps.bmpCap ∧ t = s.encDone c (s.encoded c) := by
  unfold State.enc
  split <;> simp [eq_comm] <;> omega

/-! ### What `exec` and `step` can do -/

/-- Every completed instruction is one of the five operations, in the state that operation leaves. -/
theorem exec_next {i : Instr} {s t : State} (h : exec i s = .next t) :
    (i.op = .fmt ∧ t = s.fmt i.codec) ∨ (i.op = .p2b ∧ t = s.pixelsToBytes i.codec) ∨
      (i.op = .decpx ∧ s.decpxRefusal i.codec i.mode i.sel = none ∧
        t = s.putPixel (s.decpxColor i.codec i.mode i.sel)) ∨
      (i.op = .decrgn ∧ s.decrgnRefusal i.codec i.mode = none ∧
        t = s.putBitmap (ascending s.pixels (s.regionTexel i.codec i.mode) s.bmp)) ∨
      (i.op = .enc ∧ s.pixels ≤ s.caps.bmpCap ∧ t = s.encDone i.codec (s.encoded i.codec)) := by
  rw [← ofParts_self i] at h
  cases hop : i.op <;> rw [hop] at h
  · rw [exec_fmt] at h; exact .inl ⟨rfl, by simpa [eq_comm] using h⟩
  · rw [exec_p2b] at h; exact .inr (.inl ⟨rfl, by simpa [eq_comm] using h⟩)
  · rw [exec_decpx, decpx_next_iff] at h; exact .inr (.inr (.inl ⟨rfl, h⟩))
  · rw [exec_decrgn, decrgn_next_iff] at h; exact .inr (.inr (.inr (.inl ⟨rfl, h⟩)))
  · rw [exec_enc, enc_next_iff] at h; exact .inr (.inr (.inr (.inr ⟨rfl, h⟩)))

theorem withinCap_next {a cap : Nat} {s t : State} (h : withinCap a cap s = .next t) : a < cap ∧ t = s := by
  unfold withinCap at h
  split at h
  · exact ⟨‹_›, by simpa [eq_comm] using h⟩
  · cases h

theorem issue_next {w : Word} {s t : State} (h : issue w s = .next t) :
    (∃ i, decode w = .instr i ∧ exec i s = .next t) ∨ (decode w = .invalidCodec ∧ t = s.raiseInvalidCodec) := by
  unfold issue at h
  split at h
  · exact .inl ⟨_, ‹_›, h⟩
  · exact .inr ⟨‹_›, by simpa [eq_comm] using h⟩
  · cases h

/-- Every completed host access (30_encoding.md R103, 70_reset_and_hazards.md R310). -/
theorem hostAccess_next {op : HostOp} {s t : State} (h : hostAccess op s = .next t) :
    (∃ w i, op = .writeReg 0 w ∧ decode w = .instr i ∧ exec i s = .next t) ∨
      (∃ w, op = .writeReg 0 w ∧ decode w = .invalidCodec ∧ t = s.raiseInvalidCodec) ∨
      (∃ n v, n ≠ 0 ∧ op = .writeReg n v ∧ t = s.writeReg n v) ∨
      (∃ sp a v, op = .writeByte sp a v ∧ a < s.byteCap sp ∧ t = s.writeByte sp a v) ∨
      (∃ a v, op = .writeTexel a v ∧ a < s.caps.bmpCap ∧ t = s.writeTexel a v) ∨
      (∃ v, t = s.answer v) ∨ (op = .reset ∧ t = s.doReset) := by
  cases op with
  | writeReg n v =>
    rw [hostAccess] at h
    split at h
    · rename_i h0; subst h0
      obtain ⟨i, hd, he⟩ | ⟨hd, ht⟩ := issue_next h
      · exact .inl ⟨v, i, rfl, hd, he⟩
      · exact .inr (.inl ⟨v, rfl, hd, ht⟩)
    · exact .inr (.inr (.inl ⟨n, v, ‹_›, rfl, by simpa [eq_comm] using h⟩))
  | readReg n => exact .inr (.inr (.inr (.inr (.inr (.inl ⟨_, by simpa [hostAccess, eq_comm] using h⟩)))))
  | writeByte sp a v =>
    obtain ⟨ha, rfl⟩ := withinCap_next h
    exact .inr (.inr (.inr (.inl ⟨sp, a, v, rfl, ha, rfl⟩)))
  | readByte sp a =>
    obtain ⟨-, rfl⟩ := withinCap_next h
    exact .inr (.inr (.inr (.inr (.inr (.inl ⟨_, rfl⟩)))))
  | writeTexel a v =>
    obtain ⟨ha, rfl⟩ := withinCap_next h
    exact .inr (.inr (.inr (.inr (.inl ⟨a, v, rfl, ha, rfl⟩))))
  | readTexel a =>
    obtain ⟨-, rfl⟩ := withinCap_next h
    exact .inr (.inr (.inr (.inr (.inr (.inl ⟨_, rfl⟩)))))
  | reset => exact .inr (.inr (.inr (.inr (.inr (.inr ⟨rfl, by simpa [hostAccess, eq_comm] using h⟩)))))

/-- Every completed step is idle or a completed host access. -/
theorem step_next {s t : State} (h : step s = .next t) :
    (s.host = [] ∧ t = s) ∨ ∃ op rest, s.host = op :: rest ∧ hostAccess op (s.dropHost rest) = .next t := by
  unfold step at h
  split at h
  · exact .inl ⟨‹_›, by simpa [eq_comm] using h⟩
  · exact .inr ⟨_, _, ‹_›, h⟩

end Sys2Proof.Machine
end

