-- ==== Sys2Proof/Laws/Texel.lean ====
section
/-! SUPPORT. Sub-byte texels, byte pairs and the packed Color: what goes in comes out. -/

namespace Sys2Proof.Machine

/-! ### Bit fields as numbers -/

theorem toNat_app {n m : Nat} (x : BitVec n) (y : BitVec m) : (x ++ y).toNat = x.toNat * 2 ^ m + y.toNat := by
  rw [BitVec.toNat_append, ← Nat.shiftLeft_add_eq_or_of_lt y.isLt, Nat.shiftLeft_eq]

theorem toNat_extract {n : Nat} (x : BitVec n) (i k : Nat) :
    (x.extractLsb' i k).toNat = x.toNat / 2 ^ i % 2 ^ k := by
  rw [BitVec.extractLsb'_toNat, Nat.shiftRight_eq_div_pow]

/-! ### Nibbles and bits -/

theorem nib_toNat (b : Byte) (s : Nat) : (nib b s).toNat = if s = 0 then b.toNat / 16 else b.toNat % 16 := by
  have := b.isLt
  unfold nib
  split <;> rw [toNat_extract] <;> omega

theorem nib_append (hi lo : BitVec 4) (s : Nat) : nib (hi ++ lo) s = if s = 0 then hi else lo := by
  apply BitVec.eq_of_toNat_eq
  rw [nib_toNat, toNat_app]
  have := lo.isLt
  split <;> omega

theorem putNibble_append (hi lo n : BitVec 4) (s : Nat) :
    putNibble (hi ++ lo) s n = if s = 0 then n ++ lo else hi ++ n := by
  have app (x y : BitVec 4) (i : Nat) :
      (x ++ y : Byte).getLsbD i = if i < 4 then y.getLsbD i else x.getLsbD (i - 4) := by
    rw [BitVec.getLsbD_append (x := x) (y := y)]
  unfold putNibble
  split <;> apply BitVec.eq_of_getLsbD_eq <;> intro i hi <;>
    simp only [BitVec.getLsbD_or, BitVec.getLsbD_and, app] <;> interval_cases i <;> simp

theorem byte_eq_nibbles (b : Byte) : b = nib b 0 ++ nib b 1 := by
  apply BitVec.eq_of_toNat_eq
  rw [toNat_app, nib_toNat, nib_toNat]
  simp; omega

/-- `PutNibble` replaces its own nibble and keeps the other (43_encode.md R226). -/
theorem nib_putNibble (old : Byte) (s s' : Nat) (n : BitVec 4) (h : s ≤ 1) (h' : s' ≤ 1) :
    nib (putNibble old s n) s' = if s' = s then n else nib old s' := by
  rw [byte_eq_nibbles old, putNibble_append]
  obtain rfl | rfl := Nat.le_one_iff_eq_zero_or_eq_one.mp h <;>
    obtain rfl | rfl := Nat.le_one_iff_eq_zero_or_eq_one.mp h' <;> simp [nib_append]

/-- `PutBit` replaces its own bit and keeps the other seven (43_encode.md R227). -/
theorem bitOf_putBit (old : Byte) (s s' : Nat) (t : Bool) (h : s < 8) (h' : s' < 8) :
    bitOf (putBit old s t) s' = if s' = s then t else bitOf old s' := by
  unfold bitOf putBit
  interval_cases s <;> interval_cases s' <;> simp

/-! ### Byte pairs and Colors -/

theorem hiByte_append_loByte (v : BitVec 16) : hiByte v ++ loByte v = v := by
  apply BitVec.eq_of_toNat_eq
  rw [toNat_app, hiByte, loByte, toNat_extract, toNat_extract]
  have := v.isLt
  omega

/-- COLOR and a word of the BMP port as a number (10_state.md R32, R46). -/
theorem colorToWord_toNat (c : Color) :
    (colorToWord c).toNat = c.a.toNat * 2 ^ 24 + c.r.toNat * 2 ^ 16 + c.g.toNat * 2 ^ 8 + c.b.toNat := by
  simp only [colorToWord, toNat_app]
  omega

@[simp] theorem colorOfWord_toWord (c : Color) : colorOfWord (colorToWord c) = c := by
  obtain ⟨a, r, g, b⟩ := c
  have h := colorToWord_toNat ⟨a, r, g, b⟩
  have := a.isLt
  have := r.isLt
  have := g.isLt
  have := b.isLt
  simp only [colorOfWord, Color.mk.injEq]
  refine ⟨?_, ?_, ?_, ?_⟩ <;> apply BitVec.eq_of_toNat_eq <;> rw [toNat_extract, h] <;> simp only <;> omega

end Sys2Proof.Machine
end

