-- ==== Sys2Proof/Laws/PerInstr.lean ====
section
/-! SUPPORT. Facts about each instruction as syntax, one lemma per constructor. -/

namespace Sys2Proof.Laws

/-- The fields of an instruction's word lie where 30_encoding.md R90 puts them: its low byte is `CODEC<<4 | OP` (R97),
MODE and SEL follow, and bits 31:13 are zero. -/
def TableMatch.Statement (i : Instr) : Prop :=
  (encode i).toNat =
    i.op.tag.toNat + 2 ^ 4 * i.codec.tag.toNat + 2 ^ 8 * (modeTag i.mode).toNat + 2 ^ 10 * i.sel.toNat

/-- The fields of any word the encoder writes. -/
theorem encode_toNat (i : Instr) : TableMatch.Statement i := by
  unfold TableMatch.Statement encode
  simp only [Machine.toNat_app]
  simp
  omega

theorem TableMatch.fmtRgba16 (m : ModeField) (q : SelField) : TableMatch.Statement (.fmtRgba16 m q) := encode_toNat _
theorem TableMatch.fmtRgba32 (m : ModeField) (q : SelField) : TableMatch.Statement (.fmtRgba32 m q) := encode_toNat _
theorem TableMatch.fmtIa16 (m : ModeField) (q : SelField) : TableMatch.Statement (.fmtIa16 m q) := encode_toNat _
theorem TableMatch.fmtIa8 (m : ModeField) (q : SelField) : TableMatch.Statement (.fmtIa8 m q) := encode_toNat _
theorem TableMatch.fmtIa4 (m : ModeField) (q : SelField) : TableMatch.Statement (.fmtIa4 m q) := encode_toNat _
theorem TableMatch.fmtI8 (m : ModeField) (q : SelField) : TableMatch.Statement (.fmtI8 m q) := encode_toNat _
theorem TableMatch.fmtI4 (m : ModeField) (q : SelField) : TableMatch.Statement (.fmtI4 m q) := encode_toNat _
theorem TableMatch.fmtCi8 (m : ModeField) (q : SelField) : TableMatch.Statement (.fmtCi8 m q) := encode_toNat _
theorem TableMatch.fmtCi4 (m : ModeField) (q : SelField) : TableMatch.Statement (.fmtCi4 m q) := encode_toNat _
theorem TableMatch.fmtOneBpp (m : ModeField) (q : SelField) : TableMatch.Statement (.fmtOneBpp m q) := encode_toNat _
theorem TableMatch.p2bRgba16 (m : ModeField) (q : SelField) : TableMatch.Statement (.p2bRgba16 m q) := encode_toNat _
theorem TableMatch.p2bRgba32 (m : ModeField) (q : SelField) : TableMatch.Statement (.p2bRgba32 m q) := encode_toNat _
theorem TableMatch.p2bIa16 (m : ModeField) (q : SelField) : TableMatch.Statement (.p2bIa16 m q) := encode_toNat _
theorem TableMatch.p2bIa8 (m : ModeField) (q : SelField) : TableMatch.Statement (.p2bIa8 m q) := encode_toNat _
theorem TableMatch.p2bIa4 (m : ModeField) (q : SelField) : TableMatch.Statement (.p2bIa4 m q) := encode_toNat _
theorem TableMatch.p2bI8 (m : ModeField) (q : SelField) : TableMatch.Statement (.p2bI8 m q) := encode_toNat _
theorem TableMatch.p2bI4 (m : ModeField) (q : SelField) : TableMatch.Statement (.p2bI4 m q) := encode_toNat _
theorem TableMatch.p2bCi8 (m : ModeField) (q : SelField) : TableMatch.Statement (.p2bCi8 m q) := encode_toNat _
theorem TableMatch.p2bCi4 (m : ModeField) (q : SelField) : TableMatch.Statement (.p2bCi4 m q) := encode_toNat _
theorem TableMatch.p2bOneBpp (m : ModeField) (q : SelField) : TableMatch.Statement (.p2bOneBpp m q) := encode_toNat _
theorem TableMatch.decpxRgba16 (m : ModeField) (q : SelField) : TableMatch.Statement (.decpxRgba16 m q) := encode_toNat _
theorem TableMatch.decpxRgba32 (m : ModeField) (q : SelField) : TableMatch.Statement (.decpxRgba32 m q) := encode_toNat _
theorem TableMatch.decpxIa16 (m : ModeField) (q : SelField) : TableMatch.Statement (.decpxIa16 m q) := encode_toNat _
theorem TableMatch.decpxIa8 (m : ModeField) (q : SelField) : TableMatch.Statement (.decpxIa8 m q) := encode_toNat _
theorem TableMatch.decpxIa4 (m : ModeField) (q : SelField) : TableMatch.Statement (.decpxIa4 m q) := encode_toNat _
theorem TableMatch.decpxI8 (m : ModeField) (q : SelField) : TableMatch.Statement (.decpxI8 m q) := encode_toNat _
theorem TableMatch.decpxI4 (m : ModeField) (q : SelField) : TableMatch.Statement (.decpxI4 m q) := encode_toNat _
theorem TableMatch.decpxCi8 (m : ModeField) (q : SelField) : TableMatch.Statement (.decpxCi8 m q) := encode_toNat _
theorem TableMatch.decpxCi4 (m : ModeField) (q : SelField) : TableMatch.Statement (.decpxCi4 m q) := encode_toNat _
theorem TableMatch.decpxOneBpp (m : ModeField) (q : SelField) : TableMatch.Statement (.decpxOneBpp m q) := encode_toNat _
theorem TableMatch.decrgnRgba16 (m : ModeField) (q : SelField) : TableMatch.Statement (.decrgnRgba16 m q) := encode_toNat _
theorem TableMatch.decrgnRgba32 (m : ModeField) (q : SelField) : TableMatch.Statement (.decrgnRgba32 m q) := encode_toNat _
theorem TableMatch.decrgnIa16 (m : ModeField) (q : SelField) : TableMatch.Statement (.decrgnIa16 m q) := encode_toNat _
theorem TableMatch.decrgnIa8 (m : ModeField) (q : SelField) : TableMatch.Statement (.decrgnIa8 m q) := encode_toNat _
theorem TableMatch.decrgnIa4 (m : ModeField) (q : SelField) : TableMatch.Statement (.decrgnIa4 m q) := encode_toNat _
theorem TableMatch.decrgnI8 (m : ModeField) (q : SelField) : TableMatch.Statement (.decrgnI8 m q) := encode_toNat _
theorem TableMatch.decrgnI4 (m : ModeField) (q : SelField) : TableMatch.Statement (.decrgnI4 m q) := encode_toNat _
theorem TableMatch.decrgnCi8 (m : ModeField) (q : SelField) : TableMatch.Statement (.decrgnCi8 m q) := encode_toNat _
theorem TableMatch.decrgnCi4 (m : ModeField) (q : SelField) : TableMatch.Statement (.decrgnCi4 m q) := encode_toNat _
theorem TableMatch.decrgnOneBpp (m : ModeField) (q : SelField) : TableMatch.Statement (.decrgnOneBpp m q) := encode_toNat _
theorem TableMatch.encRgba16 (m : ModeField) (q : SelField) : TableMatch.Statement (.encRgba16 m q) := encode_toNat _
theorem TableMatch.encRgba32 (m : ModeField) (q : SelField) : TableMatch.Statement (.encRgba32 m q) := encode_toNat _
theorem TableMatch.encIa16 (m : ModeField) (q : SelField) : TableMatch.Statement (.encIa16 m q) := encode_toNat _
theorem TableMatch.encIa8 (m : ModeField) (q : SelField) : TableMatch.Statement (.encIa8 m q) := encode_toNat _
theorem TableMatch.encIa4 (m : ModeField) (q : SelField) : TableMatch.Statement (.encIa4 m q) := encode_toNat _
theorem TableMatch.encI8 (m : ModeField) (q : SelField) : TableMatch.Statement (.encI8 m q) := encode_toNat _
theorem TableMatch.encI4 (m : ModeField) (q : SelField) : TableMatch.Statement (.encI4 m q) := encode_toNat _
theorem TableMatch.encCi8 (m : ModeField) (q : SelField) : TableMatch.Statement (.encCi8 m q) := encode_toNat _
theorem TableMatch.encCi4 (m : ModeField) (q : SelField) : TableMatch.Statement (.encCi4 m q) := encode_toNat _
theorem TableMatch.encOneBpp (m : ModeField) (q : SelField) : TableMatch.Statement (.encOneBpp m q) := encode_toNat _

end Sys2Proof.Laws
end

