-- ==== Sys2Proof/Laws/Decode.lean ====
section
/-! SUPPORT. Tags and fields of command words: each table read back gives what was written, and what each outcome of the
decoder says about the word. -/

namespace Sys2Proof

@[simp] theorem Op.ofTag_tag (op : Op) : Op.ofTag op.tag = some op := by cases op <;> rfl

@[simp] theorem Codec.ofTag_tag (c : Codec) : Codec.ofTag c.tag = some c := by cases c <;> rfl

@[simp] theorem modeOfTag_tag (m : ModeField) : modeOfTag (modeTag m) = m := by
  obtain _ | m := m
  · rfl
  · cases m <;> rfl

theorem Op.tag_of_ofTag {t : BitVec 4} {op : Op} (h : Op.ofTag t = some op) : op.tag = t := by
  revert h; revert t; cases op <;> decide

theorem Codec.tag_of_ofTag {t : BitVec 4} {c : Codec} (h : Codec.ofTag t = some c) : c.tag = t := by
  revert h; revert t; cases c <;> decide

@[simp] theorem modeTag_ofTag (t : BitVec 2) : modeTag (modeOfTag t) = t := by revert t; decide

theorem Op.ofTag_eq_none_iff (t : BitVec 4) : Op.ofTag t = none ↔ t.toNat = 0 ∨ 6 ≤ t.toNat := by revert t; decide

theorem Codec.ofTag_eq_none_iff (t : BitVec 4) : Codec.ofTag t = none ↔ 10 ≤ t.toNat := by revert t; decide

theorem checkDefect_instr {i j : Instr} (h : checkDefect i = .instr j) : i.wf ∧ i = j := by
  unfold checkDefect at h
  split at h
  · exact ⟨‹_›, by simpa using h⟩
  · cases h
  · cases h

theorem checkDefect_wf {i : Instr} (h : i.wf) : checkDefect i = .instr i := by
  rw [checkDefect, show i.defect = none from h]

theorem checkDefect_of_not_wf {i : Instr} (h : ¬i.wf) : ∃ r, checkDefect i = .reserved r := by
  unfold checkDefect
  split
  · exact absurd ‹_› h
  · exact ⟨_, rfl⟩
  · exact ⟨_, rfl⟩

/-- A word whose reserved bits are zero and whose OP and CODEC are in their tables is checked as that row's
instruction (30_encoding.md R96). -/
theorem decode_of_fields {w : Word} {op : Op} {c : Codec} (hr : w.extractLsb' 13 19 = 0#19)
    (ho : Op.ofTag (w.extractLsb' 0 4) = some op) (hc : Codec.ofTag (w.extractLsb' 4 4) = some c) :
    decode w = checkDefect (Instr.ofParts op c (modeOfTag (w.extractLsb' 8 2)) (w.extractLsb' 10 3)) := by
  simp [decode, hr, ho, hc]

/-- What each outcome of the decoder says about the word (30_encoding.md R96). -/
theorem decode_cases (w : Word) :
    (w.extractLsb' 13 19 ≠ 0#19 ∧ decode w = .reserved .bits) ∨
      (w.extractLsb' 13 19 = 0#19 ∧ Op.ofTag (w.extractLsb' 0 4) = none ∧ decode w = .reserved .op) ∨
      (∃ op, w.extractLsb' 13 19 = 0#19 ∧ Op.ofTag (w.extractLsb' 0 4) = some op ∧
        Codec.ofTag (w.extractLsb' 4 4) = none ∧ decode w = .invalidCodec) ∨
      ∃ op c, w.extractLsb' 13 19 = 0#19 ∧ Op.ofTag (w.extractLsb' 0 4) = some op ∧
        Codec.ofTag (w.extractLsb' 4 4) = some c ∧
        decode w = checkDefect (Instr.ofParts op c (modeOfTag (w.extractLsb' 8 2)) (w.extractLsb' 10 3)) := by
  by_cases hr : w.extractLsb' 13 19 = 0#19
  · cases ho : Op.ofTag (w.extractLsb' 0 4) with
    | none => exact .inr (.inl ⟨hr, rfl, by simp [decode, hr, ho]⟩)
    | some op =>
      cases hc : Codec.ofTag (w.extractLsb' 4 4) with
      | none => exact .inr (.inr (.inl ⟨op, hr, rfl, rfl, by simp [decode, hr, ho, hc]⟩))
      | some c => exact .inr (.inr (.inr ⟨op, c, hr, rfl, rfl, decode_of_fields hr ho hc⟩))
  · exact .inl ⟨hr, by simp [decode, hr]⟩

end Sys2Proof
end

