-- ==== Sys2Proof/Laws/Encode.lean ====
section
/-! SUPPORT. The buffers of an ENC: reads and writes, what a palette lookup can do, and the shape every pixel keeps. -/

namespace Sys2Proof.Machine

namespace EncBuf
variable (e : EncBuf) (a b : Nat) (v : Byte)

@[simp] theorem writeOut_opal : (e.writeOut a v).opal = e.opal := rfl
@[simp] theorem writeOut_pCount : (e.writeOut a v).pCount = e.pCount := rfl
@[simp] theorem writeOut_exhCnt : (e.writeOut a v).exhCnt = e.exhCnt := rfl
@[simp] theorem writeOpal_out : (e.writeOpal a v).out = e.out := rfl
@[simp] theorem writeOpal_pCount : (e.writeOpal a v).pCount = e.pCount := rfl
@[simp] theorem writeOpal_exhCnt : (e.writeOpal a v).exhCnt = e.exhCnt := rfl

@[simp] theorem readOut_writeOut : (e.writeOut a v).readOut b = if b = a then v else e.readOut b :=
  Memory.read_write _ _ _ _ _

@[simp] theorem readOpal_writeOpal : (e.writeOpal a v).readOpal b = if b = a then v else e.readOpal b :=
  Memory.read_write _ _ _ _ _

@[simp] theorem readOpal_writeOut : (e.writeOut a v).readOpal b = e.readOpal b := rfl

@[simp] theorem readOut_writeOpal : (e.writeOpal a v).readOut b = e.readOut b := rfl

theorem palAssign_out (v : BitVec 16) (cap : Nat) : (e.palAssign v cap).out = e.out := by
  unfold palAssign
  split
  · rfl
  · split <;> rfl

/-- The three things a lookup-or-append can do (43_encode.md R231, R232). -/
theorem palAssign_cases (v : BitVec 16) (cap : Nat) :
    (∃ j, j < e.pCount ∧ e.entry j = v ∧ e.palIndex v cap = j ∧ e.palAssign v cap = e) ∨
      ((∀ j, j < e.pCount → e.entry j ≠ v) ∧ e.pCount < cap ∧ e.palIndex v cap = e.pCount ∧
        e.palAssign v cap =
          { (e.writeOpal (2 * e.pCount) (hiByte v)).writeOpal (2 * e.pCount + 1) (loByte v) with
            pCount := e.pCount + 1 }) ∨
      ((∀ j, j < e.pCount → e.entry j ≠ v) ∧ cap ≤ e.pCount ∧ e.palIndex v cap = 0 ∧
        e.palAssign v cap = { e with exhCnt := e.exhCnt + 1 }) := by
  unfold palAssign palIndex
  cases h : e.palFind v with
  | some j =>
    obtain ⟨hj, he⟩ := firstBelow_some h
    exact .inl ⟨j, hj, by simpa using he, rfl, rfl⟩
  | none =>
    have hn : ∀ j, j < e.pCount → e.entry j ≠ v := fun j hj => by
      simpa using (firstBelow_none_iff _ _).mp h j hj
    by_cases hc : e.pCount < cap
    · exact .inr (.inl ⟨hn, hc, by simp [hc], by simp [hc]⟩)
    · exact .inr (.inr ⟨hn, by omega, by simp [hc], by simp [hc]⟩)

end EncBuf

/-- The shape of the buffers during an encode: exactly the bytes of OUT and OPAL that the command delivers are defined,
and the palette holds no more than its capacity (43_encode.md R233, R241; 20_memory.md R70). -/
structure EncShape (c : Codec) (n : Nat) (e : EncBuf) : Prop where
  outKeys : e.out.cells.map Prod.fst = List.range (p2b c n)
  opalKeys : e.opal.cells.map Prod.fst = List.range (2 * palCapOf c)
  room : e.pCount ≤ palCapOf c

theorem EncShape.writeOut {c : Codec} {n : Nat} {e : EncBuf} (h : EncShape c n e) {a : Nat} (ha : a < p2b c n)
    (v : Byte) : EncShape c n (e.writeOut a v) := ⟨Memory.keys_write h.outKeys ha v, h.opalKeys, h.room⟩

theorem EncShape.palAssign {c : Codec} {n : Nat} {e : EncBuf} (h : EncShape c n e) (v : BitVec 16) :
    EncShape c n (e.palAssign v (palCapOf c)) := by
  obtain ⟨j, -, -, -, he⟩ | ⟨-, hc, -, he⟩ | ⟨-, -, -, he⟩ := e.palAssign_cases v (palCapOf c)
  · rw [he]; exact h
  · rw [he]
    exact ⟨h.outKeys, Memory.keys_write (Memory.keys_write h.opalKeys (by omega) _) (by omega) _, hc⟩
  · rw [he]; exact ⟨h.outKeys, h.opalKeys, h.room⟩

theorem encTexel_shape {c : Codec} {n idx : Nat} {e : EncBuf} (h : EncShape c n e) (hi : idx < n) (x : Color) :
    EncShape c n (e.encTexel c idx x) := by
  cases c <;> simp only [EncBuf.encTexel, EncBuf.encRgba16, EncBuf.encRgba32, EncBuf.encIa16, EncBuf.encIa8, EncBuf.encIa4,
    EncBuf.encI8, EncBuf.encI4, EncBuf.encCi8, EncBuf.encCi4, EncBuf.encOneBpp, EncBuf.writeOut16, EncBuf.putNibbleAt]
  all_goals
    repeat' first
      | exact h
      | exact h.palAssign _
      | apply EncShape.writeOut
    all_goals simp only [p2b, packClass, texelAddr]; omega

theorem encStart_shape (s : State) (c : Codec) : EncShape c s.pixels (s.encStart c) :=
  ⟨Memory.keys_fresh _ _ _, Memory.keys_fresh _ _ _, Nat.zero_le _⟩

theorem encoded_shape (s : State) (c : Codec) : EncShape c s.pixels (s.encoded c) :=
  ascending_induct (fun _ e => EncShape c s.pixels e) (encStart_shape s c) fun _ hk _ h => encTexel_shape h hk _

theorem p2b_le (c : Codec) (n : Nat) : p2b c n ≤ 4 * n := by
  unfold p2b; split <;> omega

theorem pixels_lt (s : State) : s.pixels < 2 ^ 30 := by
  have hw := s.width.isLt
  have hh := s.height.isLt
  calc s.pixels ≤ (2 ^ 15 - 1) * (2 ^ 15 - 1) := Nat.mul_le_mul (by omega) (by omega)
    _ < 2 ^ 30 := by norm_num

/-- OUTLEN holds its value whole (00_scope.md R8). -/
theorem outLen_toNat (s : State) (c : Codec) : (BitVec.ofNat 32 (p2b c s.pixels)).toNat = p2b c s.pixels := by
  have := p2b_le c s.pixels
  have := pixels_lt s
  rw [BitVec.toNat_ofNat, Nat.mod_eq_of_lt (by omega)]

theorem palCapOf_cases (c : Codec) : palCapOf c = 0 ∨ palCapOf c = 16 ∨ palCapOf c = 256 := by
  cases c <;> simp [palCapOf]

theorem opalLen_toNat (c : Codec) : (BitVec.ofNat 10 (2 * palCapOf c)).toNat = 2 * palCapOf c := by
  cases c <;> rfl

theorem encTexel_exhCnt_le (c : Codec) (idx : Nat) (e : EncBuf) (x : Color) :
    (e.encTexel c idx x).exhCnt ≤ e.exhCnt + 1 := by
  cases c <;> simp only [EncBuf.encTexel, EncBuf.encRgba16, EncBuf.encRgba32, EncBuf.encIa16, EncBuf.encIa8, EncBuf.encIa4,
    EncBuf.encI8, EncBuf.encI4, EncBuf.encCi8, EncBuf.encCi4, EncBuf.encOneBpp, EncBuf.writeOut16, EncBuf.putNibbleAt,
    EncBuf.writeOut_exhCnt]
  case ci8 => 
    obtain ⟨j, -, -, -, he⟩ | ⟨-, hc, -, he⟩ | ⟨-, -, -, he⟩ := e.palAssign_cases (colorToRaw16 x) 256 <;> rw [he] <;> simp
  case ci4 => 
    obtain ⟨j, -, -, -, he⟩ | ⟨-, hc, -, he⟩ | ⟨-, -, -, he⟩ := e.palAssign_cases (colorToRaw16 x) 16 <;> rw [he] <;> simp
  all_goals omega

theorem encoded_exhCnt_le (s : State) (c : Codec) : (s.encoded c).exhCnt ≤ s.pixels :=
  ascending_induct (fun k (e : EncBuf) => e.exhCnt ≤ k) (Nat.zero_le _) fun k _ e h =>
    (encTexel_exhCnt_le c k e _).trans (Nat.succ_le_succ h)

theorem exhCnt_toNat (s : State) (c : Codec) :
    (BitVec.ofNat 30 (s.encoded c).exhCnt).toNat = (s.encoded c).exhCnt := by
  have := encoded_exhCnt_le s c
  have := pixels_lt s
  rw [BitVec.toNat_ofNat, Nat.mod_eq_of_lt (by omega)]

theorem pCount_toNat (s : State) (c : Codec) :
    (BitVec.ofNat 9 (s.encoded c).pCount).toNat = (s.encoded c).pCount := by
  have h1 := (encoded_shape s c).room
  obtain h | h | h := palCapOf_cases c <;> rw [BitVec.toNat_ofNat, Nat.mod_eq_of_lt (by omega)]

/-- A codec without a palette appends nothing and meets no exhaustion (43_encode.md R233, R260). -/
theorem encoded_plain (s : State) {c : Codec} (h : palCapOf c = 0) :
    (s.encoded c).pCount = 0 ∧ (s.encoded c).exhCnt = 0 ∧ (s.encoded c).opal = (s.encStart c).opal := by
  refine ascending_induct (fun _ (e : EncBuf) => e.pCount = 0 ∧ e.exhCnt = 0 ∧ e.opal = (s.encStart c).opal)
    ⟨rfl, rfl, rfl⟩ fun k _ e he => ?_
  cases c <;> first | exact he | cases h

end Sys2Proof.Machine
end

