-- ==== Sys2Proof/Laws/Region.lean ====
section
/-! SUPPORT. What the loop of DECRGN leaves in BMP. -/

namespace Sys2Proof.Machine

theorem regionTexel_read (s : State) (c : Codec) (m : ModeField) (k : Nat) (b : Memory Color) (idx : Nat) :
    (s.regionTexel c m k b).read freeColor idx =
      if idx = k ∧ s.regionInSource c k = true then s.regionColor c m k else b.read freeColor idx := by
  unfold State.regionTexel
  split
  · rw [Memory.read_write]; simp [*]
  · simp [*]

/-- What the loop of DECRGN leaves in each texel (42_decode_region.md R190, R192, R193). -/
theorem regionLoop_read (s : State) (c : Codec) (m : ModeField) (n : Nat) (b : Memory Color) (idx : Nat) :
    (ascending n (s.regionTexel c m) b).read freeColor idx =
      if idx < n ∧ s.regionInSource c idx = true then s.regionColor c m idx else b.read freeColor idx := by
  induction n with
  | zero => simp
  | succ n ih =>
    rw [ascending_succ, regionTexel_read, ih]
    by_cases h : idx = n
    · subst h; simp
    · have : idx < n + 1 ↔ idx < n := by omega
      simp [h, this]

theorem regionLoop_wf (s : State) (c : Codec) (m : ModeField) (n : Nat) {b : Memory Color} (h : b.wf) :
    (ascending n (s.regionTexel c m) b).wf :=
  ascending_induct (fun _ (b : Memory Color) => b.wf) h fun k _ b hb => by
    unfold State.regionTexel
    split
    · exact Memory.wf_write hb _ _
    · exact hb

theorem regionLoop_mem {s : State} {c : Codec} {m : ModeField} {n : Nat} {b : Memory Color} {x : Nat × Color}
    (h : x ∈ (ascending n (s.regionTexel c m) b).cells) : x.1 < n ∨ x ∈ b.cells :=
  ascending_induct (fun n (b' : Memory Color) => ∀ x ∈ b'.cells, x.1 < n ∨ x ∈ b.cells) (fun _ h => .inr h)
    (fun k _ b' ih x hx => by
      unfold State.regionTexel at hx
      split at hx
      · obtain h | h := Memory.mem_cells_write hx
        · exact .inl (h ▸ Nat.lt_succ_self k)
        · exact (ih x h).imp_left Nat.lt_succ_of_lt
      · exact (ih x hx).imp_left Nat.lt_succ_of_lt) x h

end Sys2Proof.Machine
end

