-- ==== Sys2Proof/Tests/Slice0.lean ====
section
/-! SUPPORT. Tests of one step each, with the words and results of 95_test_vectors.md, and for every obligation with
hypotheses a state and operands that meet them. -/

namespace Sys2Proof.Tests

open Sys2Proof.Machine Sys2Proof.Claims

/-! ## Helpers -/

/-- Consecutive values from address 0 up. -/
def listed {α : Type} (l : List α) : Memory α := { draw := 0, cells := (List.range l.length).zip l }

/-- The capacities that 95_test_vectors.md section 3 assumes. -/
def testCaps : Caps := { srcCap := 16, palCap := 512, bmpCap := 18 }

/-- The state after reset of an engine with those capacities. -/
def start : State := { State.reset with caps := testCaps }

/-- SRC holds these bytes and SRCLEN is their number. -/
def withSrc (bytes : List Byte) (s : State) : State :=
  { s with src := listed bytes, srcLen := BitVec.ofNat 32 bytes.length }

/-- BMP holds these words from texel 0 up. -/
def withBmp (words : List Word) (s : State) : State := { s with bmp := listed (words.map colorOfWord) }

/-- WIDTH and HEIGHT. -/
def sized (w h : Nat) (s : State) : State := { s with width := BitVec.ofNat 15 w, height := BitVec.ofNat 15 h }

/-- OFFSET. -/
def at' (a : Nat) (s : State) : State := { s with offset := BitVec.ofNat 32 a }

/-- One step: the host's write of a command word. -/
def command (w : Nat) (s : State) : Host.Outcome State Fault Refusal := step (s.withFetchWord 32 w)

/-- A fact about the state a completed step leaves. -/
def after (o : Host.Outcome State Fault Refusal) (p : State → Bool) : Bool :=
  match o with
  | .next t => p t
  | .fault _ => false
  | .refused _ => false

/-- The reason a step is refused. -/
def refusal (o : Host.Outcome State Fault Refusal) : Option Refusal :=
  match o with
  | .next _ => none
  | .fault _ => none
  | .refused r => some r

/-- The first `n` bytes of OUT. -/
def outBytes (t : State) (n : Nat) : List Byte := (List.range n).map (t.readByte .out)

/-- The first `n` bytes of OPAL. -/
def opalBytes (t : State) (n : Nat) : List Byte := (List.range n).map (t.readByte .opal)

/-- The first `n` texels of BMP as words. -/
def bmpWords (t : State) (n : Nat) : List Word := (List.range n).map fun i => colorToWord (t.readTexel i)

/-- The start of D1 to D21. -/
def pixelStart : State :=
  { withSrc [0x12, 0x34, 0x56, 0x78] start with
    palLen := 512
    pal := { draw := 0, cells := [(2, 0x01), (3, 0x08), (4, 0x02), (5, 0x0F), (36, 0x12), (37, 0x7F)] } }

/-- The start of G1 to G16 at an OFFSET with a geometry: BMP preset to 0xDEADBEEF. -/
def regionStart (a w h : Nat) : State :=
  at' a (sized w h (withBmp (List.replicate 10 0xDEADBEEF) (withSrc [0x12, 0x34, 0x56, 0x78, 0x9A, 0xBC, 0xDE, 0xF0] start)))

/-- Bitmap X. -/
def bitmapX : State := sized 2 2 (withBmp [0xFFFF0000, 0x0000FF00, 0x800A141E, 0x01C8C8C8] start)

/-- Bitmap X3, the first three texels of X. -/
def bitmapX3 : State := sized 3 1 bitmapX

/-! ## Well-formedness -/

/-- 30_encoding.md R99 c: MODE = 3 is refused where MODE is read, and only there. -/
theorem test_reserved_mode_is_ill_formed :
    (Instr.decpxI8 none 0).defect = some .reservedMode ∧ (Instr.decpxI4 none 1).defect = some .reservedMode ∧
      (Instr.decrgnI8 none 0).defect = some .reservedMode ∧ (Instr.decrgnI4 none 0).defect = some .reservedMode ∧
      (Instr.encI4 none 0).defect = none := by decide

/-- 30_encoding.md R99 d: SEL of 2 or more is refused in DECPX of the nibble-packed codecs, and only there. -/
theorem test_reserved_selector_is_ill_formed :
    (Instr.decpxIa4 none 2).defect = some .reservedSelector ∧
      (Instr.decpxI4 (some .full) 2).defect = some .reservedSelector ∧
      (Instr.decpxCi4 none 7).defect = some .reservedSelector ∧ (Instr.decpxOneBpp none 7).defect = none ∧
      (Instr.decrgnIa4 none 7).defect = none := by decide

/-! ## Decoding: words written out from 30_encoding.md R90 to R93, `OP` in bits 3:0, `CODEC` in bits 7:4 -/

/-- The ten rows of FMT, MODE = SEL = 0. -/
theorem test_decode_fmt :
    decode 0b0000000000000000000_000_00_0000_0001#32 = .instr (.fmtRgba16 (some .copyIntensity) 0) ∧
      decode 0b0000000000000000000_000_00_0001_0001#32 = .instr (.fmtRgba32 (some .copyIntensity) 0) ∧
      decode 0b0000000000000000000_000_00_0010_0001#32 = .instr (.fmtIa16 (some .copyIntensity) 0) ∧
      decode 0b0000000000000000000_000_00_0011_0001#32 = .instr (.fmtIa8 (some .copyIntensity) 0) ∧
      decode 0b0000000000000000000_000_00_0100_0001#32 = .instr (.fmtIa4 (some .copyIntensity) 0) ∧
      decode 0b0000000000000000000_000_00_0101_0001#32 = .instr (.fmtI8 (some .copyIntensity) 0) ∧
      decode 0b0000000000000000000_000_00_0110_0001#32 = .instr (.fmtI4 (some .copyIntensity) 0) ∧
      decode 0b0000000000000000000_000_00_0111_0001#32 = .instr (.fmtCi8 (some .copyIntensity) 0) ∧
      decode 0b0000000000000000000_000_00_1000_0001#32 = .instr (.fmtCi4 (some .copyIntensity) 0) ∧
      decode 0b0000000000000000000_000_00_1001_0001#32 = .instr (.fmtOneBpp (some .copyIntensity) 0) := by decide

/-- The ten rows of P2B, MODE = SEL = 0. -/
theorem test_decode_p2b :
    decode 0b0000000000000000000_000_00_0000_0010#32 = .instr (.p2bRgba16 (some .copyIntensity) 0) ∧
      decode 0b0000000000000000000_000_00_0001_0010#32 = .instr (.p2bRgba32 (some .copyIntensity) 0) ∧
      decode 0b0000000000000000000_000_00_0010_0010#32 = .instr (.p2bIa16 (some .copyIntensity) 0) ∧
      decode 0b0000000000000000000_000_00_0011_0010#32 = .instr (.p2bIa8 (some .copyIntensity) 0) ∧
      decode 0b0000000000000000000_000_00_0100_0010#32 = .instr (.p2bIa4 (some .copyIntensity) 0) ∧
      decode 0b0000000000000000000_000_00_0101_0010#32 = .instr (.p2bI8 (some .copyIntensity) 0) ∧
      decode 0b0000000000000000000_000_00_0110_0010#32 = .instr (.p2bI4 (some .copyIntensity) 0) ∧
      decode 0b0000000000000000000_000_00_0111_0010#32 = .instr (.p2bCi8 (some .copyIntensity) 0) ∧
      decode 0b0000000000000000000_000_00_1000_0010#32 = .instr (.p2bCi4 (some .copyIntensity) 0) ∧
      decode 0b0000000000000000000_000_00_1001_0010#32 = .instr (.p2bOneBpp (some .copyIntensity) 0) := by decide

/-- The ten rows of DECPX, MODE = SEL = 0. -/
theorem test_decode_decpx :
    decode 0b0000000000000000000_000_00_0000_0011#32 = .instr (.decpxRgba16 (some .copyIntensity) 0) ∧
      decode 0b0000000000000000000_000_00_0001_0011#32 = .instr (.decpxRgba32 (some .copyIntensity) 0) ∧
      decode 0b0000000000000000000_000_00_0010_0011#32 = .instr (.decpxIa16 (some .copyIntensity) 0) ∧
      decode 0b0000000000000000000_000_00_0011_0011#32 = .instr (.decpxIa8 (some .copyIntensity) 0) ∧
      decode 0b0000000000000000000_000_00_0100_0011#32 = .instr (.decpxIa4 (some .copyIntensity) 0) ∧
      decode 0b0000000000000000000_000_00_0101_0011#32 = .instr (.decpxI8 (some .copyIntensity) 0) ∧
      decode 0b0000000000000000000_000_00_0110_0011#32 = .instr (.decpxI4 (some .copyIntensity) 0) ∧
      decode 0b0000000000000000000_000_00_0111_0011#32 = .instr (.decpxCi8 (some .copyIntensity) 0) ∧
      decode 0b0000000000000000000_000_00_1000_0011#32 = .instr (.decpxCi4 (some .copyIntensity) 0) ∧
      decode 0b0000000000000000000_000_00_1001_0011#32 = .instr (.decpxOneBpp (some .copyIntensity) 0) := by decide

/-- The ten rows of DECRGN, MODE = SEL = 0. -/
theorem test_decode_decrgn :
    decode 0b0000000000000000000_000_00_0000_0100#32 = .instr (.decrgnRgba16 (some .copyIntensity) 0) ∧
      decode 0b0000000000000000000_000_00_0001_0100#32 = .instr (.decrgnRgba32 (some .copyIntensity) 0) ∧
      decode 0b0000000000000000000_000_00_0010_0100#32 = .instr (.decrgnIa16 (some .copyIntensity) 0) ∧
      decode 0b0000000000000000000_000_00_0011_0100#32 = .instr (.decrgnIa8 (some .copyIntensity) 0) ∧
      decode 0b0000000000000000000_000_00_0100_0100#32 = .instr (.decrgnIa4 (some .copyIntensity) 0) ∧
      decode 0b0000000000000000000_000_00_0101_0100#32 = .instr (.decrgnI8 (some .copyIntensity) 0) ∧
      decode 0b0000000000000000000_000_00_0110_0100#32 = .instr (.decrgnI4 (some .copyIntensity) 0) ∧
      decode 0b0000000000000000000_000_00_0111_0100#32 = .instr (.decrgnCi8 (some .copyIntensity) 0) ∧
      decode 0b0000000000000000000_000_00_1000_0100#32 = .instr (.decrgnCi4 (some .copyIntensity) 0) ∧
      decode 0b0000000000000000000_000_00_1001_0100#32 = .instr (.decrgnOneBpp (some .copyIntensity) 0) := by decide

/-- The ten rows of ENC, MODE = SEL = 0. -/
theorem test_decode_enc :
    decode 0b0000000000000000000_000_00_0000_0101#32 = .instr (.encRgba16 (some .copyIntensity) 0) ∧
      decode 0b0000000000000000000_000_00_0001_0101#32 = .instr (.encRgba32 (some .copyIntensity) 0) ∧
      decode 0b0000000000000000000_000_00_0010_0101#32 = .instr (.encIa16 (some .copyIntensity) 0) ∧
      decode 0b0000000000000000000_000_00_0011_0101#32 = .instr (.encIa8 (some .copyIntensity) 0) ∧
      decode 0b0000000000000000000_000_00_0100_0101#32 = .instr (.encIa4 (some .copyIntensity) 0) ∧
      decode 0b0000000000000000000_000_00_0101_0101#32 = .instr (.encI8 (some .copyIntensity) 0) ∧
      decode 0b0000000000000000000_000_00_0110_0101#32 = .instr (.encI4 (some .copyIntensity) 0) ∧
      decode 0b0000000000000000000_000_00_0111_0101#32 = .instr (.encCi8 (some .copyIntensity) 0) ∧
      decode 0b0000000000000000000_000_00_1000_0101#32 = .instr (.encCi4 (some .copyIntensity) 0) ∧
      decode 0b0000000000000000000_000_00_1001_0101#32 = .instr (.encOneBpp (some .copyIntensity) 0) := by decide

/-- MODE in bits 9:8 and SEL in bits 12:10. -/
theorem test_decode_operands :
    decode 0b0000000000000000000_001_10_0110_0011#32 = .instr (.decpxI4 (some .full) 1) ∧
      decode 0b0000000000000000000_111_01_0101_0100#32 = .instr (.decrgnI8 (some .binary) 7) ∧
      decode 0b0000000000000000000_011_00_1001_0011#32 = .instr (.decpxOneBpp (some .copyIntensity) 3) ∧
      decode 0b0000000000000000000_101_11_0000_0011#32 = .instr (.decpxRgba16 none 5) := by decide

/-- F3, F4, F5, D36, D37 and G24 of 95_test_vectors.md. -/
theorem test_reserved_words :
    decode 0x00002001#32 = .reserved .bits ∧ decode 0x00000000#32 = .reserved .op ∧
      decode 0x00000006#32 = .reserved .op ∧ decode 0x000000A0#32 = .reserved .op ∧
      decode 0x00000843#32 = .reserved .selector ∧ decode 0x00000353#32 = .reserved .mode ∧
      decode 0x00000354#32 = .reserved .mode ∧ decode 0x80000001#32 = .reserved .bits := by decide

/-- F1, D30 and E16 of 95_test_vectors.md: a codec tag outside the set. -/
theorem test_invalid_codec_words :
    decode 0x000000A1#32 = .invalidCodec ∧ decode 0x000000A3#32 = .invalidCodec ∧
      decode 0x000000F5#32 = .invalidCodec := by decide

/-- The numbering of the opcode table. -/
theorem test_decode_table_word :
    decodeTableWord 32 0x00000663 = some (.decpxI4 (some .full) 1) ∧ decodeTableWord 32 0x000000A1 = none ∧
      decodeTableWord 32 0x00000006 = none := by decide

/-! ## FMT: 95_test_vectors.md section 2.1 -/

theorem test_fmt_Rgba16 :
    after (command 0x01 (start)) (fun t => t.fmtInfo == 0x1 && t.status == 0) = true := by decide

theorem test_fmt_Rgba32 :
    after (command 0x11 (start)) (fun t => t.fmtInfo == 0x2 && t.status == 0) = true := by decide

theorem test_fmt_Ia16 :
    after (command 0x21 (start)) (fun t => t.fmtInfo == 0x1 && t.status == 0) = true := by decide

theorem test_fmt_Ia8 :
    after (command 0x31 (start)) (fun t => t.fmtInfo == 0x0 && t.status == 0) = true := by decide

theorem test_fmt_Ia4 :
    after (command 0x41 (start)) (fun t => t.fmtInfo == 0x3 && t.status == 0) = true := by decide

theorem test_fmt_I8 :
    after (command 0x51 (start)) (fun t => t.fmtInfo == 0x0 && t.status == 0) = true := by decide

theorem test_fmt_I4 :
    after (command 0x61 (start)) (fun t => t.fmtInfo == 0x3 && t.status == 0) = true := by decide

theorem test_fmt_Ci8 :
    after (command 0x71 (start)) (fun t => t.fmtInfo == 0x8 && t.status == 0) = true := by decide

theorem test_fmt_Ci4 :
    after (command 0x81 (start)) (fun t => t.fmtInfo == 0xB && t.status == 0) = true := by decide

theorem test_fmt_OneBpp :
    after (command 0x91 (start)) (fun t => t.fmtInfo == 0x4 && t.status == 0) = true := by decide

/-- F2: MODE and SEL are ignored. -/
theorem test_fmt_ignores_fields : after (command 0x1F81 start) (fun t => t.fmtInfo == 0xB) = true := by decide

/-! ## P2B: 95_test_vectors.md section 2.2, an odd count and the largest -/

theorem test_p2b_Rgba16 :
    after (command 0x02 { start with pixCount := 9 }) (fun t => t.byteCount == 18) = true ∧
      after (command 0x02 { start with pixCount := 0x3FFFFFFF }) (fun t => t.byteCount == 2147483646) = true := by
  decide

theorem test_p2b_Rgba32 :
    after (command 0x12 { start with pixCount := 9 }) (fun t => t.byteCount == 36) = true ∧
      after (command 0x12 { start with pixCount := 0x3FFFFFFF }) (fun t => t.byteCount == 4294967292) = true := by
  decide

theorem test_p2b_Ia16 :
    after (command 0x22 { start with pixCount := 9 }) (fun t => t.byteCount == 18) = true ∧
      after (command 0x22 { start with pixCount := 0x3FFFFFFF }) (fun t => t.byteCount == 2147483646) = true := by
  decide

theorem test_p2b_Ia8 :
    after (command 0x32 { start with pixCount := 9 }) (fun t => t.byteCount == 9) = true ∧
      after (command 0x32 { start with pixCount := 0x3FFFFFFF }) (fun t => t.byteCount == 1073741823) = true := by
  decide

theorem test_p2b_Ia4 :
    after (command 0x42 { start with pixCount := 9 }) (fun t => t.byteCount == 5) = true ∧
      after (command 0x42 { start with pixCount := 0x3FFFFFFF }) (fun t => t.byteCount == 536870912) = true := by
  decide

theorem test_p2b_I8 :
    after (command 0x52 { start with pixCount := 9 }) (fun t => t.byteCount == 9) = true ∧
      after (command 0x52 { start with pixCount := 0x3FFFFFFF }) (fun t => t.byteCount == 1073741823) = true := by
  decide

theorem test_p2b_I4 :
    after (command 0x62 { start with pixCount := 9 }) (fun t => t.byteCount == 5) = true ∧
      after (command 0x62 { start with pixCount := 0x3FFFFFFF }) (fun t => t.byteCount == 536870912) = true := by
  decide

theorem test_p2b_Ci8 :
    after (command 0x72 { start with pixCount := 9 }) (fun t => t.byteCount == 9) = true ∧
      after (command 0x72 { start with pixCount := 0x3FFFFFFF }) (fun t => t.byteCount == 1073741823) = true := by
  decide

theorem test_p2b_Ci4 :
    after (command 0x82 { start with pixCount := 9 }) (fun t => t.byteCount == 5) = true ∧
      after (command 0x82 { start with pixCount := 0x3FFFFFFF }) (fun t => t.byteCount == 536870912) = true := by
  decide

theorem test_p2b_OneBpp :
    after (command 0x92 { start with pixCount := 9 }) (fun t => t.byteCount == 2) = true ∧
      after (command 0x92 { start with pixCount := 0x3FFFFFFF }) (fun t => t.byteCount == 134217728) = true := by
  decide

/-! ## DECPX: 95_test_vectors.md section 2.3 -/

/-- D1. -/
theorem test_decpx_rgba16 :
    after (command 0x3 pixelStart) (fun t => t.color == 0x001041D5 && t.status == 0) = true := by decide

/-- D20: an odd address. -/
theorem test_decpx_rgba16_odd_address :
    after (command 0x3 (at' 1 pixelStart)) (fun t => t.color == 0x00318B5A && t.status == 0) = true := by decide

/-- D2. -/
theorem test_decpx_rgba32 :
    after (command 0x13 pixelStart) (fun t => t.color == 0x78123456 && t.status == 0) = true := by decide

/-- D3. -/
theorem test_decpx_ia16 :
    after (command 0x23 pixelStart) (fun t => t.color == 0x34121212 && t.status == 0) = true := by decide

/-- D4. -/
theorem test_decpx_ia8 :
    after (command 0x33 pixelStart) (fun t => t.color == 0x22111111 && t.status == 0) = true := by decide

/-- D5. -/
theorem test_decpx_ia4_high :
    after (command 0x43 pixelStart) (fun t => t.color == 0xFF000000 && t.status == 0) = true := by decide

/-- D6. -/
theorem test_decpx_ia4_low :
    after (command 0x443 pixelStart) (fun t => t.color == 0x00242424 && t.status == 0) = true := by decide

/-- D7. -/
theorem test_decpx_i8_copy :
    after (command 0x53 pixelStart) (fun t => t.color == 0x12121212 && t.status == 0) = true := by decide

/-- D8. -/
theorem test_decpx_i8_binary :
    after (command 0x153 pixelStart) (fun t => t.color == 0xFF121212 && t.status == 0) = true := by decide

/-- D10. -/
theorem test_decpx_i4_copy :
    after (command 0x63 pixelStart) (fun t => t.color == 0x11111111 && t.status == 0) = true := by decide

/-- D12. -/
theorem test_decpx_i4_full_low :
    after (command 0x663 pixelStart) (fun t => t.color == 0xFF222222 && t.status == 0) = true := by decide

/-- D14. -/
theorem test_decpx_ci8 :
    after (command 0x73 pixelStart) (fun t => t.color == 0xFF104AFF && t.status == 0) = true := by decide

/-- D40: the last byte of the palette buffer. -/
theorem test_decpx_ci8_short_palette :
    after (command 0x73 { pixelStart with palLen := 38 }) (fun t => t.color == 0xFF104AFF && t.status == 0) = true := by decide

/-- D15. -/
theorem test_decpx_ci4_high :
    after (command 0x83 pixelStart) (fun t => t.color == 0x00002020 && t.status == 0) = true := by decide

/-- D16, D41. -/
theorem test_decpx_ci4_low :
    after (command 0x483 { pixelStart with palLen := 6 }) (fun t => t.color == 0xFF004139 && t.status == 0) = true := by decide

/-- D18. -/
theorem test_decpx_oneBpp_bit3 :
    after (command 0xC93 pixelStart) (fun t => t.color == 0xFFFFFFFF && t.status == 0) = true := by decide

/-- D42. -/
theorem test_decpx_oneBpp_bit7 :
    after (command 0x1C93 (at' 3 pixelStart)) (fun t => t.color == 0x00000000 && t.status == 0) = true := by decide

/-- D32, D35, D39 and D40: a texel or its palette entry is out of bounds. -/
theorem test_decpx_refusals :
    refusal (command 0x3 (at' 3 pixelStart)) = some .sourceBounds ∧
      refusal (command 0x33 (at' 4 pixelStart)) = some .sourceBounds ∧
      refusal (command 0x73 { pixelStart with palLen := 0 }) = some .paletteBounds ∧
      refusal (command 0x73 { pixelStart with palLen := 37 }) = some .paletteBounds := by decide

/-- D30, D31: InvalidCodec is checked before the bounds, sets STATUS and keeps COLOR. -/
theorem test_invalid_codec :
    after (command 0xA3 { start with color := 7, status := 4 }) (fun t => t.status == 1 && t.color == 7) = true := by
  decide

/-! ## DECRGN: 95_test_vectors.md section 2.4 -/

/-- G1. -/
theorem test_decrgn_rgba16 :
    after (command 0x4 (regionStart 0 2 2)) (fun t =>
      bmpWords t 4 == [0x001041D5, 0x0052CDE6, 0x009C52F6, 0x00DEDEC5] && t.status == 0) = true := by
  decide

/-- G2: texel 3 is skipped. -/
theorem test_decrgn_rgba16_short :
    after (command 0x4 (regionStart 1 2 2)) (fun t =>
      bmpWords t 4 == [0x00318B5A, 0x007B106A, 0x00BD9C7B, 0xDEADBEEF] && t.status == 0) = true := by
  decide

/-- G6: every texel is skipped. -/
theorem test_decrgn_rgba32 :
    after (command 0x14 (regionStart 6 3 1)) (fun t =>
      bmpWords t 3 == [0xDEADBEEF, 0xDEADBEEF, 0xDEADBEEF] && t.status == 0) = true := by
  decide

/-- D2 as a region (42_decode_region.md R191). -/
theorem test_decrgn_rgba32_first :
    after (command 0x14 (regionStart 0 1 1)) (fun t =>
      bmpWords t 2 == [0x78123456, 0xDEADBEEF] && t.status == 0) = true := by
  decide

/-- G7. -/
theorem test_decrgn_ia16 :
    after (command 0x24 (regionStart 6 3 1)) (fun t =>
      bmpWords t 3 == [0xF0DEDEDE, 0xDEADBEEF, 0xDEADBEEF] && t.status == 0) = true := by
  decide

/-- G8. -/
theorem test_decrgn_ia8 :
    after (command 0x34 (regionStart 6 3 1)) (fun t =>
      bmpWords t 3 == [0xEEDDDDDD, 0x00FFFFFF, 0xDEADBEEF] && t.status == 0) = true := by
  decide

/-- G9. -/
theorem test_decrgn_ia4 :
    after (command 0x44 (regionStart 6 3 1)) (fun t =>
      bmpWords t 3 == [0xFFDADADA, 0x00FFFFFF, 0xFFFFFFFF] && t.status == 0) = true := by
  decide

/-- G16. -/
theorem test_decrgn_ia4_short :
    after (command 0x44 (regionStart 7 3 1)) (fun t =>
      bmpWords t 3 == [0xFFFFFFFF, 0x00000000, 0xDEADBEEF] && t.status == 0) = true := by
  decide

/-- G10. -/
theorem test_decrgn_i8 :
    after (command 0x154 (regionStart 6 3 1)) (fun t =>
      bmpWords t 3 == [0xFFDEDEDE, 0xFFF0F0F0, 0xDEADBEEF] && t.status == 0) = true := by
  decide

/-- G11. -/
theorem test_decrgn_i4 :
    after (command 0x164 (regionStart 6 3 1)) (fun t =>
      bmpWords t 3 == [0xFFDDDDDD, 0xFFEEEEEE, 0xFFFFFFFF] && t.status == 0) = true := by
  decide

/-- G17: no row padding. -/
theorem test_decrgn_i4_rows :
    after (command 0x64 (regionStart 0 3 2)) (fun t =>
      bmpWords t 6 == [0x11111111, 0x22222222, 0x33333333, 0x44444444, 0x55555555, 0x66666666] && t.status == 0) = true := by
  decide

/-- G12. -/
theorem test_decrgn_ci8 :
    after (command 0x74 ({ regionStart 6 3 1 with palLen := 512, pal := { draw := 0, cells := [(444, 0xDE), (445, 0x01), (480, 0xF0), (481, 0x01)] } })) (fun t =>
      bmpWords t 3 == [0xFFDEC500, 0xFFF60000, 0xDEADBEEF] && t.status == 0) = true := by
  decide

/-- G13. -/
theorem test_decrgn_ci4 :
    after (command 0x84 ({ regionStart 6 3 1 with palLen := 32, pal := { draw := 0, cells := [(26, 0xF8), (27, 0x01), (28, 0x07), (29, 0xC1), (30, 0x00), (31, 0x3F)] } })) (fun t =>
      bmpWords t 3 == [0xFFFF0000, 0xFF00FF00, 0xFF0000FF] && t.status == 0) = true := by
  decide

/-- G14. -/
theorem test_decrgn_oneBpp :
    after (command 0x94 (regionStart 6 3 1)) (fun t =>
      bmpWords t 3 == [0xFFFFFFFF, 0xFFFFFFFF, 0x00000000] && t.status == 0) = true := by
  decide

/-- G15. -/
theorem test_decrgn_oneBpp_short :
    after (command 0x94 (regionStart 7 10 1)) (fun t =>
      bmpWords t 10 == [0xFFFFFFFF, 0xFFFFFFFF, 0xFFFFFFFF, 0xFFFFFFFF, 0x00000000, 0x00000000, 0x00000000, 0x00000000, 0xDEADBEEF, 0xDEADBEEF] && t.status == 0) = true := by
  decide

/-- G23 and G25: too large a geometry, and a palette without the last entry. -/
theorem test_decrgn_refusals :
    refusal (command 0x4 (regionStart 0 19 1)) = some .bitmapCapacity ∧
      refusal (command 0x84 { regionStart 6 3 1 with palLen := 30 }) = some .paletteBounds := by decide

/-- G26: no texel is in bounds, so no palette entry is needed. -/
theorem test_decrgn_without_source :
    after (command 0x74 { regionStart 0 2 2 with srcLen := 0, palLen := 0 })
      (fun t => bmpWords t 1 == [0xDEADBEEF] && t.status == 0) = true := by decide

/-! ## ENC: 95_test_vectors.md section 2.5 -/

/-- E1. -/
theorem test_enc_Rgba16 :
    after (command 0x5 bitmapX) (fun t =>
      t.outLen == 8 && outBytes t 8 == [0xF8, 0x01, 0x07, 0xC0, 0x08, 0x89, 0xC6, 0x31] && t.opalLen == 0 && t.status == 0) = true := by
  decide

/-- E2. -/
theorem test_enc_Rgba32 :
    after (command 0x15 bitmapX) (fun t =>
      t.outLen == 16 && outBytes t 16 == [0xFF, 0x00, 0x00, 0xFF, 0x00, 0xFF, 0x00, 0x00, 0x0A, 0x14, 0x1E, 0x80, 0xC8, 0xC8, 0xC8, 0x01] && t.opalLen == 0 && t.status == 0) = true := by
  decide

/-- E3. -/
theorem test_enc_Ia16 :
    after (command 0x25 bitmapX) (fun t =>
      t.outLen == 8 && outBytes t 8 == [0x55, 0xFF, 0x55, 0x00, 0x14, 0x80, 0xC8, 0x01] && t.opalLen == 0 && t.status == 0) = true := by
  decide

/-- E4. -/
theorem test_enc_Ia8 :
    after (command 0x35 bitmapX) (fun t =>
      t.outLen == 4 && outBytes t 4 == [0x5F, 0x50, 0x17, 0xB0] && t.opalLen == 0 && t.status == 0) = true := by
  decide

/-- E5. -/
theorem test_enc_Ia4 :
    after (command 0x45 bitmapX) (fun t =>
      t.outLen == 2 && outBytes t 2 == [0x54, 0x1B] && t.opalLen == 0 && t.status == 0) = true := by
  decide

/-- E5b. -/
theorem test_enc_Ia4_odd :
    after (command 0x45 bitmapX3) (fun t =>
      t.outLen == 2 && outBytes t 2 == [0x54, 0x10] && t.opalLen == 0 && t.status == 0) = true := by
  decide

/-- E6. -/
theorem test_enc_I8 :
    after (command 0x55 bitmapX) (fun t =>
      t.outLen == 4 && outBytes t 4 == [0x55, 0x55, 0x14, 0xC8] && t.opalLen == 0 && t.status == 0) = true := by
  decide

/-- E7. -/
theorem test_enc_I4 :
    after (command 0x65 bitmapX) (fun t =>
      t.outLen == 2 && outBytes t 2 == [0x55, 0x1B] && t.opalLen == 0 && t.status == 0) = true := by
  decide

/-- E7b and E15: MODE and SEL are ignored. -/
theorem test_enc_I4_odd :
    after (command 0x1F65 bitmapX3) (fun t =>
      t.outLen == 2 && outBytes t 2 == [0x55, 0x10] && t.opalLen == 0 && t.status == 0) = true := by
  decide

/-- E10b. -/
theorem test_enc_OneBpp :
    after (command 0x95 bitmapX3) (fun t =>
      t.outLen == 1 && outBytes t 1 == [0xE0] && t.opalLen == 0 && t.status == 0) = true := by
  decide

/-- E13. -/
theorem test_enc_OneBpp_two_bytes :
    after (command 0x95 (sized 10 1 (withBmp [0xFFFFFFFF, 0x00000000, 0x00000001, 0xFF000000, 0x07010203, 0xFFFFFFFF, 0, 0, 0xFF090909, 0] start))) (fun t =>
      t.outLen == 2 && outBytes t 2 == [0xAC, 0x80] && t.opalLen == 0 && t.status == 0) = true := by
  decide

/-- E8. -/
theorem test_enc_Ci8 :
    after (command 0x75 bitmapX) (fun t =>
      t.outLen == 4 && outBytes t 4 == [0, 1, 2, 3] && t.opalLen == 512 && t.pCount == 4 && t.exhCnt == 0 &&
        opalBytes t 9 == [0xF8, 0x01, 0x07, 0xC0, 0x08, 0x89, 0xC6, 0x31, 0x00]) = true := by
  decide +kernel

/-- E9b. -/
theorem test_enc_Ci4 :
    after (command 0x85 bitmapX3) (fun t =>
      t.outLen == 2 && outBytes t 2 == [0x01, 0x20] && t.opalLen == 32 && t.pCount == 3 && t.exhCnt == 0 &&
        opalBytes t 7 == [0xF8, 0x01, 0x07, 0xC0, 0x08, 0x89, 0x00]) = true := by
  decide +kernel

/-- The bitmap of program P3: 17 raw values, then a repeated one. -/
def bitmapP3 : State :=
  sized 18 1
    (withBmp [0xFF000000, 0xFF080000, 0xFF100000, 0xFF180000, 0xFF200000, 0xFF290000, 0xFF310000, 0xFF390000, 0xFF410000,
      0xFF4A0000, 0xFF520000, 0xFF5A0000, 0xFF620000, 0xFF6A0000, 0xFF730000, 0xFF7B0000, 0xFF830000, 0xFF180000] start)

/-- Program P3: exhaustion. -/
theorem test_enc_Ci4_exhausted :
    after (command 0x85 bitmapP3) (fun t =>
      t.status == 4 && t.exhCnt == 1 && t.pCount == 16 &&
        outBytes t 9 == [0x01, 0x23, 0x45, 0x67, 0x89, 0xAB, 0xCD, 0xEF, 0x03]) = true := by
  decide +kernel

/-- E17: two Colors of one raw value share an entry. -/
theorem test_enc_Ci8_shared_entry :
    after (command 0x75 (sized 2 1 (withBmp [0xFFFF0000, 0x80FB0300] start))) (fun t =>
      t.pCount == 1 && outBytes t 2 == [0, 0]) = true := by
  decide +kernel

/-! ## The host's port -/

/-- B2 of 95_test_vectors.md and 10_state.md R27, R32: registers keep their own width, results ignore writes. -/
theorem test_register_writes :
    after (step (start.pushHost (.writeReg 5 0xFFFFFFFF))) (fun t => t.pixCount == 0x3FFFFFFF) = true ∧
      after (step (start.pushHost (.writeReg 3 0x8001))) (fun t => t.width == 1) = true ∧
      after (step (start.pushHost (.writeReg 8 5))) (fun t => t.color == 0) = true := by decide

/-- 10_state.md R24, R39: CMD and the numbers from 15 up read 0. -/
theorem test_register_reads :
    after (step ({ start with hostData := 9 }.pushHost (.readReg 0))) (fun t => t.hostData == 0) = true ∧
      after (step ({ start with hostData := 9 }.pushHost (.readReg 15))) (fun t => t.hostData == 0) = true ∧
      after (step ({ start with exhCnt := 9 }.pushHost (.readReg 14))) (fun t => t.hostData == 9) = true := by decide

/-- 20_memory.md R72: the byte port of SRC, the word port of BMP, and OUT, which ignores writes. -/
theorem test_memory_port :
    after (step (start.pushHost (.writeByte .src 15 0xAB))) (fun t => t.readByte .src 15 == 0xAB) = true ∧
      after (step (start.pushHost (.writeTexel 17 0x01020304))) (fun t => bmpNo t 17 == 0x01020304) = true ∧
      after (step (start.pushHost (.writeByte .out 0 1))) (fun t => (t.out.written 0).isNone) = true ∧
      refusal (step (start.pushHost (.readByte .src 16))) = some .hostAddress := by decide

/-- 70_reset_and_hazards.md R310. -/
theorem test_reset_event :
    after (step (bitmapX.pushHost .reset)) (fun t => t.width == 0 && (t.bmp.written 0).isNone && t.caps == testCaps) =
      true := by decide

/-! ## Witnesses: a state and operands that meet the hypotheses of each obligation -/

/-- The state a completed instruction leaves. -/
def result (o : Host.Outcome State Fault Refusal) : State :=
  match o with
  | .next t => t
  | .fault _ => start
  | .refused _ => start

/-- `start` with one host access to come. -/
def facing (op : HostOp) : State := start.pushHost op

/-- OUT and OPAL copied to SRC and PAL, with their lengths (70_reset_and_hazards.md R324). -/
def copyBack (t : State) : State :=
  { t with
    src := { draw := 0, cells := t.out.cells }
    srcLen := t.outLen
    pal := { draw := 0, cells := t.opal.cells }
    palLen := t.opalLen.setWidth 32
    offset := 0 }

/-- The largest geometry and source of the test engine, every byte a palette index 15 and 15. -/
def fullRegion : State := sized 18 1 (withSrc (List.replicate 16 0xFF) start)

theorem witness_DecodeInvertsEncode : (Instr.decpxCi4 none 1).wf ∧ (Instr.decpxI8 (some .full) 7).wf := by decide

theorem witness_DecodedWordsReencode : decode 0x00001F81#32 = .instr (.fmtCi4 none 7) := by decide

theorem witness_MaskAndMatchSelectRow :
    0x00001F81#32 &&& 0xFFFFE0FF#32 = BitVec.ofNat 32 (16 * codecNo .ci4 + opNo .fmt) ∧
      0x00000353#32 &&& 0xFFFFE0FF#32 = BitVec.ofNat 32 (16 * codecNo .i8 + opNo .decpx) := by decide

/-- One word for each of the four kinds, at the least value of its range where there is one. -/
theorem witness_ReservedWordsAreRefused :
    decode 0x00002001#32 = .reserved .bits ∧ decode 0x00000010#32 = .reserved .op ∧
      decode 0x00000016#32 = .reserved .op ∧ decode 0x00000364#32 = .reserved .mode ∧
      decode 0x00000883#32 = .reserved .selector := by decide

/-- The least and the largest such word. -/
theorem witness_InvalidCodecOnlySetsStatus :
    ∀ w : Word, w = 0x000000A1#32 ∨ w = 0x00001FF5#32 →
      w.toNat / 2 ^ 13 = 0 ∧ 1 ≤ w.toNat % 16 ∧ w.toNat % 16 ≤ 5 ∧ 10 ≤ w.toNat / 16 % 16 := by
  rintro w (rfl | rfl) <;> decide

theorem witness_IgnoredFieldsHaveNoEffect :
    (usesMode .decpx .i8 = true → some AlphaMode.full = some .full) ∧ (usesSel .decpx .i8 = true → (0 : SelField) = 7) ∧
      (usesMode .enc .i4 = true → (none : ModeField) = some .full) := by decide

/-- A word of each kind: an instruction, the first and the last invalid codec tag, and a reserved word. -/
theorem witness_StepRunsDecodedInstruction :
    (∀ w, (facing (.writeReg 0 w)).host = .writeReg 0 w :: []) ∧
      decode 0x00000663 = .instr (.decpxI4 (some .full) 1) ∧ decode 0x000000A1 = .invalidCodec ∧
      decode 0x000000F5 = .invalidCodec ∧ decode 0x00002011 = .reserved .bits ∧ decode 0x00000006 = .reserved .op :=
  ⟨fun _ => rfl, by decide, by decide, by decide, by decide, by decide⟩

theorem witness_IdleStepChangesNothing : start.host = [] := rfl

theorem witness_ResetEventClearsEngine : (facing .reset).host = .reset :: [] := rfl

/-- Every register number meets the hypothesis. -/
theorem witness_RegisterReadsReturnState : ∀ n, (facing (.readReg n)).host = .readReg n :: [] := fun _ => rfl

/-- Every register number but 0 meets the hypotheses. -/
theorem witness_RegisterWritesKeepWidths :
    ∀ n, n ≠ 0 → n ≠ 0 ∧ (facing (.writeReg n 0xFFFFFFFF)).host = .writeReg n 0xFFFFFFFF :: [] := fun _ h => ⟨h, rfl⟩

/-- The last address of each space. -/
theorem witness_HostByteWrites :
    15 < start.byteCap .src ∧ 511 < start.byteCap .pal ∧ 71 < start.byteCap .out ∧ 511 < start.byteCap .opal ∧
      (facing (.writeByte .src 15 1)).host = .writeByte .src 15 1 :: [] := by decide

theorem witness_HostTexelWrites :
    (facing (.writeTexel 17 1)).host = .writeTexel 17 1 :: [] ∧ 17 < (facing (.writeTexel 17 1)).caps.bmpCap := by decide

theorem witness_HostReadsReturnMemory :
    ((facing (.readByte .opal 511)).host = .readByte .opal 511 :: [] ∧ 511 < (facing (.readByte .opal 511)).byteCap .opal) ∧
      (facing (.readTexel 17)).host = .readTexel 17 :: [] ∧ 17 < (facing (.readTexel 17)).caps.bmpCap := by decide

/-- The first address beyond each space. -/
theorem witness_HostAccessBeyondCapacityRefused :
    start.caps.srcCap ≤ 16 ∧ start.caps.palCap ≤ 512 ∧ 4 * start.caps.bmpCap ≤ 72 ∧ start.caps.bmpCap ≤ 18 := by decide

/-- D21: the last two bytes of the source buffer. -/
theorem witness_DecpxRgba16Color : PixelIn (at' 2 pixelStart) 2 := by unfold PixelIn; decide

theorem witness_DecpxWholeByteColors : PixelIn pixelStart 4 ∧ PixelIn (at' 2 pixelStart) 2 := by unfold PixelIn; decide

/-- The last selector of a nibble, and the first beyond it. -/
theorem witness_DecpxIntensityAlphaColors :
    PixelIn (at' 3 pixelStart) 1 ∧ (1 : SelField).toNat ≤ 1 ∧ 1 < (2 : SelField).toNat := by
  unfold PixelIn; decide

theorem witness_DecpxIntensityColors :
    PixelIn (at' 3 pixelStart) 1 ∧ (1 : SelField).toNat ≤ 1 ∧ 1 < (2 : SelField).toNat := by
  unfold PixelIn; decide

/-- D40 and D41: the last entry of the palette buffer, and palette buffers one byte too short. -/
theorem witness_DecpxPaletteColors :
    (PixelIn { pixelStart with palLen := 38 } 1 ∧
        EntryIn { pixelStart with palLen := 38 } (srcNo { pixelStart with palLen := 38 } 0)) ∧
      PixelIn { pixelStart with palLen := 6 } 1 ∧ (1 : SelField).toNat ≤ 1 ∧
        EntryIn { pixelStart with palLen := 6 } (nibNo (srcNo { pixelStart with palLen := 6 } 0) 1) ∧
        ¬EntryIn { pixelStart with palLen := 37 } (srcNo { pixelStart with palLen := 37 } 0) ∧
        ¬EntryIn { pixelStart with palLen := 5 } (nibNo (srcNo { pixelStart with palLen := 5 } 0) 1) := by
  unfold PixelIn EntryIn; decide

theorem witness_DecpxOneBppColor : PixelIn (at' 3 pixelStart) 1 := by unfold PixelIn; decide

/-- Admitted at the last address with the last palette entry, and not admitted one address later. -/
theorem witness_DecpxAdmission :
    let s := { pixelStart with palLen := 38 }
    (s.srcLen.toNat ≤ s.caps.srcCap ∧ s.offset.toNat + bytesNeeded .ci8 - 1 < s.srcLen.toNat ∧
        s.palLen.toNat ≤ s.caps.palCap ∧ 2 * srcNo s s.offset.toNat + 1 < s.palLen.toNat) ∧
      ¬(at' 1 pixelStart).offset.toNat + bytesNeeded .rgba32 - 1 < (at' 1 pixelStart).srcLen.toNat := by decide

/-- Two states that differ in results, bitmap and what lies beyond the source buffer. -/
theorem witness_DecpxDependsOnItsInputs :
    let s' := { pixelStart with color := 5, outLen := 3, src := pixelStart.src.write 4 9, bmp := bitmapX.bmp }
    s'.offset = pixelStart.offset ∧ s'.srcLen = pixelStart.srcLen ∧ s'.palLen = pixelStart.palLen ∧
      s'.caps = pixelStart.caps ∧ (∀ a, a < pixelStart.srcLen.toNat → s'.readByte .src a = pixelStart.readByte .src a) ∧
      (∀ a, a < pixelStart.palLen.toNat → s'.readByte .pal a = pixelStart.readByte .pal a) ∧
      ∃ t, exec (Instr.ofParts .decpx .ci8 none 0) pixelStart = .next t :=
  ⟨rfl, rfl, rfl, rfl, by decide, fun _ _ => rfl, _, rfl⟩

theorem fullRegion_fits : RegionFits fullRegion := by unfold RegionFits; decide

theorem witness_DecrgnWholeByteRegions : RegionFits fullRegion := fullRegion_fits

theorem witness_DecrgnPackedRegions : RegionFits fullRegion := fullRegion_fits

theorem witness_DecrgnIntensityRegions : RegionFits fullRegion := fullRegion_fits

/-- Indices 255 and 15 with the shortest palettes that hold their entries, and with palettes one byte shorter. -/
theorem witness_DecrgnPaletteRegions :
    RegionFits fullRegion ∧
      (RegionPalette { fullRegion with palLen := 512 } (fun idx => 0 + idx)
        fun idx => srcNo { fullRegion with palLen := 512 } (0 + idx)) ∧
      (RegionPalette { fullRegion with palLen := 32 } (fun idx => 0 + idx / 2)
        fun idx => nibNo (srcNo { fullRegion with palLen := 32 } (0 + idx / 2)) (idx % 2)) ∧
      (¬RegionPalette { fullRegion with palLen := 511 } (fun idx => 0 + idx)
        fun idx => srcNo { fullRegion with palLen := 511 } (0 + idx)) ∧
      ¬RegionPalette { fullRegion with palLen := 31 } (fun idx => 0 + idx / 2)
        fun idx => nibNo (srcNo { fullRegion with palLen := 31 } (0 + idx / 2)) (idx % 2) := by
  refine ⟨fullRegion_fits, ?_, ?_, ?_, ?_⟩ <;> unfold RegionPalette TexelIn <;> decide

/-- G17: the last texel, in the low nibble of its byte. -/
theorem witness_RegionTexelsEqualPixelDecode :
    (∃ t, exec (Instr.ofParts .decrgn .i4 (some .copyIntensity) 0) (regionStart 0 3 2) = .next t) ∧
      5 < pixelCount (regionStart 0 3 2) ∧
      TexelIn (regionStart 0 3 2) (bytesNeeded .i4) (texelAddr .i4 (regionStart 0 3 2).offset.toNat 5) ∧
      (1 : SelField).toNat = texelSel .i4 5 := ⟨⟨_, rfl⟩, by decide, by unfold TexelIn; decide, by decide⟩

/-- G2: texel 3 is the first skipped one. -/
theorem witness_ShortSourceSkipsTheTail :
    (∃ t, exec (Instr.ofParts .decrgn .rgba16 none 0) (regionStart 1 2 2) = .next t) ∧
      3 < pixelCount (regionStart 1 2 2) ∧
      ¬TexelIn (regionStart 1 2 2) (bytesNeeded .rgba16) (texelAddr .rgba16 (regionStart 1 2 2).offset.toNat 3) ∧ 3 ≤ 3 :=
  ⟨⟨_, rfl⟩, by decide, by unfold TexelIn; decide, le_rfl⟩

/-- Admitted at the capacity, not admitted one pixel beyond it; admitted with no width, with no height, and with a
region that starts at the end of the source. -/
theorem witness_DecrgnAdmission :
    (pixelCount fullRegion ≤ fullRegion.caps.bmpCap ∧ fullRegion.srcLen.toNat ≤ fullRegion.caps.srcCap ∧
        modeNo (some .full) ≤ 2) ∧
      ¬pixelCount (sized 19 1 start) ≤ (sized 19 1 start).caps.bmpCap ∧
      (RegionFits (regionStart 0 0 5) ∧ (regionStart 0 0 5).width = 0) ∧
      (RegionFits (regionStart 0 5 0) ∧ (regionStart 0 5 0).height = 0) ∧
      RegionFits (regionStart 8 2 2) ∧ (regionStart 8 2 2).srcLen.toNat ≤ (regionStart 8 2 2).offset.toNat := by
  unfold RegionFits; decide

theorem bitmapP3_fits : BitmapFits bitmapP3 := by unfold BitmapFits; decide

theorem witness_EncMultiByteTexels : BitmapFits bitmapP3 := bitmapP3_fits

theorem witness_EncOneByteTexels : BitmapFits bitmapP3 := bitmapP3_fits

/-- An odd number of texels, so that the last nibble is the fill. -/
theorem witness_EncNibbleTexels : BitmapFits bitmapX3 ∧ 1 < (pixelCount bitmapX3 + 1) / 2 := by
  unfold BitmapFits; decide

/-- 18 texels, so that the last byte has fill bits. -/
theorem witness_EncOneBppTexels : BitmapFits bitmapP3 ∧ 2 < (pixelCount bitmapP3 + 7) / 8 := by
  unfold BitmapFits; decide

theorem witness_EncCi8BuildsPalette : BitmapFits bitmapP3 := bitmapP3_fits

theorem witness_EncCi4BuildsPalette : BitmapFits bitmapX3 ∧ pixelCount bitmapX3 % 2 = 1 := by unfold BitmapFits; decide

theorem witness_EncAdmission :
    pixelCount bitmapP3 ≤ bitmapP3.caps.bmpCap ∧ (sized 19 1 start).caps.bmpCap < pixelCount (sized 19 1 start) := by
  decide

theorem witness_EmptyBitmapsAreNoErrors : (sized 0 5 start).width = 0 ∧ (sized 5 0 start).height = 0 := by decide

/-- Two states with one bitmap and different sources, results and host reads. -/
theorem witness_EncDependsOnBitmapOnly :
    let s' := { bitmapX with src := pixelStart.src, srcLen := 4, color := 9, pCount := 5, hostData := 3 }
    s'.width = bitmapX.width ∧ s'.height = bitmapX.height ∧ s'.caps.bmpCap = bitmapX.caps.bmpCap ∧
      (∀ idx, idx < pixelCount bitmapX → s'.readTexel idx = bitmapX.readTexel idx) ∧
      ∃ t, exec (Instr.ofParts .enc .ci4 none 0) bitmapX = .next t := ⟨rfl, rfl, rfl, fun _ _ => rfl, _, rfl⟩

/-- OUT and OPAL copied back read as they were, since an ENC defines every byte it delivers. -/
theorem copyBack_reads (c : Codec) (s : State) :
    let t := s.encDone c (s.encoded c)
    (∀ a, a < t.outLen.toNat → (copyBack t).readByte .src a = t.readByte .out a) ∧
      ∀ a, a < t.opalLen.toNat → (copyBack t).readByte .pal a = t.readByte .opal a := by
  constructor
  · intro a ha
    rw [State.encDone_outLen, outLen_toNat] at ha
    obtain ⟨v, hv⟩ := Option.isSome_iff_exists.mp (Memory.isSome_written_of_keys (encoded_shape s c).outKeys ha)
    exact (Memory.read_of_written (m := ⟨0, (s.encoded c).out.cells⟩) hv).trans (Memory.read_of_written hv).symm
  · intro a ha
    rw [State.encDone_opalLen, opalLen_toNat] at ha
    obtain ⟨v, hv⟩ := Option.isSome_iff_exists.mp (Memory.isSome_written_of_keys (encoded_shape s c).opalKeys ha)
    exact (Memory.read_of_written (m := ⟨0, (s.encoded c).opal.cells⟩) hv).trans (Memory.read_of_written hv).symm

theorem witness_Rgba32RoundTripIsLossless :
    ∃ t, exec (.encRgba32 none 0) bitmapX = .next t ∧ CopiedBack t (copyBack t) :=
  ⟨_, rfl, rfl, rfl, rfl, rfl, (copyBack_reads .rgba32 bitmapX).1, by unfold RegionFits; decide⟩

theorem witness_Rgba16RoundTripIsClose :
    ∃ t, exec (.encRgba16 none 0) bitmapX = .next t ∧ CopiedBack t (copyBack t) :=
  ⟨_, rfl, rfl, rfl, rfl, rfl, (copyBack_reads .rgba16 bitmapX).1, by unfold RegionFits; decide⟩

theorem witness_Ia8RoundTripKeepsMultiplesOf17 :
    ∃ t, exec (.encIa8 none 0) bitmapX = .next t ∧ CopiedBack t (copyBack t) :=
  ⟨_, rfl, rfl, rfl, rfl, rfl, (copyBack_reads .ia8 bitmapX).1, by unfold RegionFits; decide⟩

/-- Both codecs; P3 for CI4 has a pixel past capacity. -/
theorem witness_PaletteRoundTrip :
    (∃ t, exec (.encCi8 none 0) bitmapX = .next t ∧ CopiedBack t (copyBack t) ∧ PaletteCopiedBack t (copyBack t)) ∧
      ∃ t, exec (.encCi4 none 0) bitmapP3 = .next t ∧ CopiedBack t (copyBack t) ∧ PaletteCopiedBack t (copyBack t) :=
  ⟨⟨_, rfl, ⟨rfl, rfl, rfl, rfl, (copyBack_reads .ci8 bitmapX).1, by unfold RegionFits; decide⟩,
      rfl, (copyBack_reads .ci8 bitmapX).2, by decide⟩,
    _, rfl, ⟨rfl, rfl, rfl, rfl, (copyBack_reads .ci4 bitmapP3).1, by unfold RegionFits; decide⟩,
      rfl, (copyBack_reads .ci4 bitmapP3).2, by decide⟩

theorem witness_CommandsNeverWriteOperands : ∃ t, exec (.encCi4 none 0) bitmapX3 = .next t := ⟨_, rfl⟩

/-- One completed instruction of each operation. -/
theorem witness_ResultsBelongToTheirOperation :
    (∃ t, exec (.fmtCi4 none 7) start = .next t) ∧ (∃ t, exec (.p2bCi4 none 7) start = .next t) ∧
      (∃ t, exec (.decpxCi8 none 7) pixelStart = .next t) ∧
      (∃ t, exec (.decrgnI4 (some .full) 7) (regionStart 1 2 2) = .next t) ∧
      ∃ t, exec (.encOneBpp none 7) bitmapX = .next t :=
  ⟨⟨_, rfl⟩, ⟨_, rfl⟩, ⟨_, rfl⟩, ⟨_, rfl⟩, _, rfl⟩

/-- An ENC that counts exhausted pixels (P3), and one of a codec without a palette. -/
theorem witness_StatusAfterEveryCommand :
    (∃ t, exec (.encCi4 none 0) bitmapP3 = .next t ∧ 0 < t.exhCnt.toNat) ∧
      (∃ t, exec (.encI8 none 0) bitmapX = .next t) ∧ indexed .i8 = false ∧
      (Instr.encCi4 none 0).op = .enc ∧ BitmapFits bitmapP3 :=
  ⟨⟨_, rfl, by decide +kernel⟩, ⟨_, rfl⟩, rfl, rfl, by unfold BitmapFits; decide⟩

theorem witness_CapacitiesNeverChange : ∃ t, step (facing .reset) = .next t := ⟨_, rfl⟩

/-- A state with written memories, and one step from it. -/
theorem witness_StepKeepsMemoryForm :
    MemoryInv (regionStart 1 2 2) ∧ ∃ t, step ((regionStart 1 2 2).pushHost (.writeByte .src 15 1)) = .next t :=
  ⟨⟨by decide, by decide, by decide, by decide, by decide, by decide, by decide, by decide⟩, _, rfl⟩

/-- The state E9b leaves. -/
def palettized : State := result (exec (.encCi4 none 0) bitmapX3)

theorem witness_StepKeepsResultRegisters : ResultInv palettized ∧ ∃ t, step palettized = .next t :=
  ⟨⟨by decide +kernel, by decide +kernel, by decide +kernel, by decide +kernel, by decide +kernel, by decide +kernel⟩,
    _, rfl⟩

theorem witness_StepKeepsPaletteDistinct : PaletteInv palettized ∧ ∃ t, step palettized = .next t := by
  refine ⟨⟨by decide +kernel, ?_, ?_, by decide +kernel, by decide +kernel⟩, _, rfl⟩
  · have h : ∀ j, j < palettized.pCount.toNat → ∀ k, k < palettized.pCount.toNat →
        palettized.opalEntry j = palettized.opalEntry k → j = k := by decide +kernel
    exact fun j k hj hk => h j hj k hk
  · have h : ∀ a, a < palettized.opalLen.toNat → 2 * palettized.pCount.toNat ≤ a → palettized.readByte .opal a = 0 := by
      decide +kernel
    exact fun a ha hl => h a hl ha

end Sys2Proof.Tests
end

section
/-! Proofs about the state after reset (10_state.md R47): the rules of its reads, then the statement. -/

namespace Sys2Proof.Machine

/-- The numbers with a register read that register's reset value, the others read 0 anyway (10_state.md R21, R47). -/
@[simp] theorem State.readReg_reset (n : Nat) : State.reset.readReg n = 0 := by
  unfold State.readReg
  split <;> rfl

@[simp] theorem State.byteMem_reset (sp : ByteSpace) : State.reset.byteMem sp = .unwritten := by
  cases sp <;> rfl

@[simp] theorem State.bmp_reset : State.reset.bmp = .unwritten := rfl

end Sys2Proof.Machine

namespace Sys2Proof.Proofs

open Sys2Proof.Machine Sys2Proof.Claims

/-- Settles O10: every register is 0 and every memory is the unwritten one, which lists no location. -/
theorem resetLeavesRegistersZero : Obligations.ResetLeavesRegistersZero := by
  refine ⟨State.readReg_reset, fun sp a => ?_, fun t => ?_⟩
  · rw [State.byteMem_reset, Memory.written_unwritten]
  · rw [State.bmp_reset, Memory.written_unwritten]

end Sys2Proof.Proofs
end

section
/-! Proofs about command words (30_encoding.md R97 to R100): the fields of a word as numbers, the word a row of the
opcode map stands for, and which fields a row reads. -/

namespace Sys2Proof

open Sys2Proof.Machine Sys2Proof.Claims

/-! ### Tags as numbers -/

@[simp] theorem Op.tag_toNat (op : Op) : op.tag.toNat = opNo op := by cases op <;> rfl

@[simp] theorem Codec.tag_toNat (c : Codec) : c.tag.toNat = codecNo c := by cases c <;> rfl

@[simp] theorem modeTag_toNat (m : ModeField) : (modeTag m).toNat = modeNo m := by
  obtain _ | m := m
  · rfl
  · cases m <;> rfl

theorem opNo_bounds (op : Op) : 1 ≤ opNo op ∧ opNo op ≤ 5 := by cases op <;> decide

theorem codecNo_le (c : Codec) : codecNo c ≤ 9 := by cases c <;> decide

theorem modeNo_le (m : ModeField) : modeNo m ≤ 3 := by
  have := (modeTag m).isLt
  rw [modeTag_toNat] at this
  omega

theorem modeNo_eq_three_iff (m : ModeField) : modeNo m = 3 ↔ m = none := by
  obtain _ | m := m
  · simp [modeNo]
  · cases m <;> simp [modeNo]

/-! ### The word of a row -/

/-- Nothing is lost in 32 bits: MODE and SEL lie above the low byte and below bit 13. -/
theorem cmdWord_toNat {low : Nat} (hlow : low < 256) (m : ModeField) (q : SelField) :
    (cmdWord low m q).toNat = low + 256 * modeNo m + 1024 * q.toNat := by
  have := modeNo_le m
  rw [cmdWord, BitVec.toNat_ofNat]
  omega

theorem rowByte_lt (op : Op) (c : Codec) : 16 * codecNo c + opNo op < 256 := by
  have := opNo_bounds op
  have := codecNo_le c
  omega

/-- The encoder's field layout and the sum of 30_encoding.md R90 give one word. -/
theorem encode_ofParts (op : Op) (c : Codec) (m : ModeField) (q : SelField) :
    encode (Instr.ofParts op c m q) = cmdWord (16 * codecNo c + opNo op) m q := by
  apply BitVec.eq_of_toNat_eq
  rw [Laws.encode_toNat, cmdWord_toNat (rowByte_lt op c)]
  simp
  omega

/-- The decoder takes an encoded word apart into the instruction's own fields, and checks MODE and SEL. -/
theorem decode_encode (i : Instr) : decode (encode i) = checkDefect i := by
  have hnum := Laws.encode_toNat i
  unfold Laws.TableMatch.Statement at hnum
  have := i.op.tag.isLt
  have := i.codec.tag.isLt
  have := (modeTag i.mode).isLt
  have := i.sel.isLt
  have hzero : (encode i).extractLsb' 13 19 = 0#19 := by
    apply BitVec.eq_of_toNat_eq; rw [toNat_extract, BitVec.toNat_ofNat]; omega
  have hop : (encode i).extractLsb' 0 4 = i.op.tag := by
    apply BitVec.eq_of_toNat_eq; rw [toNat_extract]; omega
  have hcodec : (encode i).extractLsb' 4 4 = i.codec.tag := by
    apply BitVec.eq_of_toNat_eq; rw [toNat_extract]; omega
  have hmode : (encode i).extractLsb' 8 2 = modeTag i.mode := by
    apply BitVec.eq_of_toNat_eq; rw [toNat_extract]; omega
  have hsel : (encode i).extractLsb' 10 3 = i.sel := by
    apply BitVec.eq_of_toNat_eq; rw [toNat_extract]; omega
  rw [decode_of_fields hzero (by rw [hop, Op.ofTag_tag]) (by rw [hcodec, Codec.ofTag_tag]), hmode, hsel,
    modeOfTag_tag, ofParts_self]

theorem decode_cmdWord (op : Op) (c : Codec) (m : ModeField) (q : SelField) :
    decode (cmdWord (16 * codecNo c + opNo op) m q) = checkDefect (Instr.ofParts op c m q) := by
  rw [← encode_ofParts, decode_encode]

/-- A word with zero bits 31:13 is its low byte with its own MODE and SEL. -/
theorem eq_cmdWord_of_low {w : Word} {low : Nat} (hzero : w.toNat / 2 ^ 13 = 0) (hlow : w.toNat % 256 = low) :
    w = cmdWord low (modeOfTag (w.extractLsb' 8 2)) (w.extractLsb' 10 3) := by
  apply BitVec.eq_of_toNat_eq
  rw [cmdWord_toNat (by omega), ← modeTag_toNat, modeTag_ofTag, toNat_extract, toNat_extract]
  omega

/-- What the decoder answers, said of the word as a number (30_encoding.md R96): every word that is not one of the
first three kinds is the word of a row. -/
theorem decode_cases_toNat (w : Word) :
    (w.toNat / 2 ^ 13 ≠ 0 ∧ decode w = .reserved .bits) ∨
      ((w.toNat % 16 = 0 ∨ 6 ≤ w.toNat % 16) ∧ decode w = .reserved .op) ∨
      (w.toNat / 2 ^ 13 = 0 ∧ 1 ≤ w.toNat % 16 ∧ w.toNat % 16 ≤ 5 ∧ 10 ≤ w.toNat / 16 % 16 ∧
        decode w = .invalidCodec) ∨
      ∃ op c m q, w = cmdWord (16 * codecNo c + opNo op) m q := by
  have hw := w.isLt
  have hbits := toNat_extract w 13 19
  have hop := toNat_extract w 0 4
  have hcodec := toNat_extract w 4 4
  obtain ⟨hr, hd⟩ | ⟨-, ho, hd⟩ | ⟨op, hr, ho, hc, hd⟩ | ⟨op, c, hr, ho, hc, -⟩ := decode_cases w
  · have hne : (w.extractLsb' 13 19).toNat ≠ 0 := fun h => hr (BitVec.eq_of_toNat_eq h)
    exact .inl ⟨by omega, hd⟩
  · rw [Op.ofTag_eq_none_iff] at ho
    exact .inr (.inl ⟨by omega, hd⟩)
  · rw [hr, BitVec.toNat_ofNat] at hbits
    rw [← Op.tag_of_ofTag ho, Op.tag_toNat] at hop
    rw [Codec.ofTag_eq_none_iff] at hc
    have := opNo_bounds op
    exact .inr (.inr (.inl ⟨by omega, by omega, by omega, by omega, hd⟩))
  · rw [hr, BitVec.toNat_ofNat] at hbits
    rw [← Op.tag_of_ofTag ho, Op.tag_toNat] at hop
    rw [← Codec.tag_of_ofTag hc, Codec.tag_toNat] at hcodec
    exact .inr (.inr (.inr ⟨op, c, _, _, eq_cmdWord_of_low (by omega) (by omega)⟩))

/-! ### The mask -/

/-- The mask of 30_encoding.md R97 clears MODE and SEL, bits 12:8, and keeps every other bit. -/
theorem and_mask_eq (w : Word) : w &&& 0xFFFFE0FF#32 = w.extractLsb' 13 19 ++ 0#5 ++ w.extractLsb' 0 8 := by
  apply BitVec.eq_of_getLsbD_eq
  intro i hi
  rw [BitVec.getLsbD_append (x := w.extractLsb' 13 19 ++ 0#5), BitVec.getLsbD_append]
  interval_cases i <;> simp

theorem and_mask_toNat (w : Word) :
    (w &&& 0xFFFFE0FF#32).toNat = w.toNat / 2 ^ 13 * 2 ^ 13 + w.toNat % 256 := by
  rw [and_mask_eq, toNat_app, toNat_app, toNat_extract, toNat_extract, BitVec.toNat_ofNat]
  omega

/-- Under the mask a word is a low byte exactly when it is that byte with some MODE and SEL. -/
theorem and_mask_eq_iff (w : Word) {low : Nat} (hlow : low < 256) :
    w &&& 0xFFFFE0FF#32 = BitVec.ofNat 32 low ↔ ∃ m q, w = cmdWord low m q := by
  rw [← BitVec.toNat_inj, and_mask_toNat, BitVec.toNat_ofNat]
  constructor
  · intro h
    exact ⟨_, _, eq_cmdWord_of_low (by omega) (by omega)⟩
  · rintro ⟨m, q, rfl⟩
    have := modeNo_le m
    rw [cmdWord_toNat hlow]
    omega

/-! ### The fields a row reads -/

/-- MODE is checked where it is read, SEL where it selects a nibble (30_encoding.md R99 c, d). -/
theorem defect_ofParts (op : Op) (c : Codec) (m : ModeField) (q : SelField) :
    (Instr.ofParts op c m q).defect =
      (if usesMode op c = true then modeDefect m else none).or
        (if op = .decpx ∧ packClass c = .nibble then nibbleDefect q else none) := by
  cases op <;> cases c <;> simp [Instr.ofParts, Instr.defect, usesMode, packClass]

theorem wf_ofParts_iff (op : Op) (c : Codec) (m : ModeField) (q : SelField) :
    (Instr.ofParts op c m q).wf ↔
      (usesMode op c = true → m ≠ none) ∧ (op = .decpx ∧ packClass c = .nibble → q.toNat ≤ 1) := by
  have hmode : modeDefect m = none ↔ m ≠ none := by cases m <;> simp [modeDefect]
  have hsel : nibbleDefect q = none ↔ q.toNat ≤ 1 := by simp [nibbleDefect]
  simp [Instr.wf, defect_ofParts, hmode, hsel]

theorem usesMode_iff (op : Op) (c : Codec) :
    usesMode op c = true ↔ (opNo op = 3 ∨ opNo op = 4) ∧ (codecNo c = 5 ∨ codecNo c = 6) := by
  cases op <;> cases c <;> decide

theorem packClass_nibble_iff (c : Codec) :
    packClass c = .nibble ↔ codecNo c = 4 ∨ codecNo c = 6 ∨ codecNo c = 8 := by cases c <;> decide

theorem eq_decpx_iff (op : Op) : op = .decpx ↔ opNo op = 3 := by cases op <;> decide

theorem usesMode_decpx (c : Codec) : usesMode .decpx c = readsMode c := by cases c <;> rfl

theorem usesMode_decrgn (c : Codec) : usesMode .decrgn c = readsMode c := by cases c <;> rfl

theorem usesSel_of_nibble {c : Codec} (h : packClass c = .nibble) : usesSel .decpx c = true := by
  revert h; cases c <;> decide

theorem exists_reserved_checkDefect_iff (i : Instr) : (∃ r, checkDefect i = .reserved r) ↔ ¬i.wf := by
  refine ⟨?_, checkDefect_of_not_wf⟩
  rintro ⟨r, hr⟩ hwf
  simp [checkDefect_wf hwf] at hr

/-! ### The effect of a row's word -/

namespace Machine

/-- A texel's index depends on the selector only in a nibble-packed codec (41_decode_pixel.md R168). -/
theorem texelIndex_congr (s : State) {c : Codec} {k k' : Nat} (a : Nat) (hk : packClass c = .nibble → k = k') :
    s.texelIndex c a k = s.texelIndex c a k' := by
  unfold State.texelIndex
  split
  case h_4 hc => rw [hk hc]
  all_goals rfl

/-- A texel's Color depends on the mode and the selector only where the codec's decode reads them
(41_decode_pixel.md R157). -/
theorem decodeTexel_congr (s : State) {c : Codec} {m m' : AlphaMode} {k k' : Nat} (a : Nat)
    (hm : readsMode c = true → m = m') (hk : usesSel .decpx c = true → k = k') :
    s.decodeTexel c m a k = s.decodeTexel c m' a k' := by
  cases c with
  | rgba16 | rgba32 | ia16 | ia8 | ci8 => rfl
  | ia4 | ci4 | oneBpp => rw [hk rfl]; rfl
  | i8 => rw [hm rfl]; rfl
  | i4 => rw [hm rfl, hk rfl]

theorem decpx_congr (s : State) {c : Codec} {m m' : ModeField} {q q' : SelField}
    (hm : readsMode c = true → m = m') (hq : usesSel .decpx c = true → q = q') :
    s.decpx c m q = s.decpx c m' q' := by
  have hnib : packClass c = .nibble → q = q' := fun h => hq (usesSel_of_nibble h)
  have hmode : readsMode c = true ∧ m = none ↔ readsMode c = true ∧ m' = none :=
    and_congr_right fun h => by rw [hm h]
  have hsel : packClass c = .nibble ∧ 1 < q.toNat ↔ packClass c = .nibble ∧ 1 < q'.toNat :=
    and_congr_right fun h => by rw [hnib h]
  have hindex : s.texelIndex c s.offset.toNat q.toNat = s.texelIndex c s.offset.toNat q'.toNat :=
    texelIndex_congr s _ fun h => by rw [hnib h]
  have hcolor : s.decpxColor c m q = s.decpxColor c m' q' :=
    decodeTexel_congr s _ (fun h => by rw [hm h]) fun h => by rw [hq h]
  simp only [State.decpx, State.decpxRefusal, hmode, hsel, hindex, hcolor]

theorem decrgn_congr (s : State) {c : Codec} {m m' : ModeField} (hm : readsMode c = true → m = m') :
    s.decrgn c m = s.decrgn c m' := by
  have hmode : readsMode c = true ∧ m = none ↔ readsMode c = true ∧ m' = none :=
    and_congr_right fun h => by rw [hm h]
  have hcolor : s.regionColor c m = s.regionColor c m' :=
    funext fun idx => decodeTexel_congr s _ (fun h => by rw [hm h]) fun _ => rfl
  have htexel : s.regionTexel c m = s.regionTexel c m' := by
    funext idx bmp
    rw [State.regionTexel, hcolor, State.regionTexel]
  simp only [State.decrgn, State.decrgnRefusal, hmode, htexel]

theorem exec_ofParts_congr {op : Op} {c : Codec} {m m' : ModeField} {q q' : SelField} (s : State)
    (hm : usesMode op c = true → m = m') (hq : usesSel op c = true → q = q') :
    exec (Instr.ofParts op c m q) s = exec (Instr.ofParts op c m' q') s := by
  cases op with
  | fmt => rw [exec_fmt, exec_fmt]
  | p2b => rw [exec_p2b, exec_p2b]
  | decpx =>
    rw [usesMode_decpx] at hm
    rw [exec_decpx, exec_decpx, decpx_congr s hm hq]
  | decrgn =>
    rw [usesMode_decrgn] at hm
    rw [exec_decrgn, exec_decrgn, decrgn_congr s hm]
  | enc => rw [exec_enc, exec_enc]

end Machine

theorem defect_ofParts_congr {op : Op} {c : Codec} {m m' : ModeField} {q q' : SelField}
    (hm : usesMode op c = true → m = m') (hq : usesSel op c = true → q = q') :
    (Instr.ofParts op c m q).defect = (Instr.ofParts op c m' q').defect := by
  have hmode : (if usesMode op c = true then modeDefect m else none) =
      if usesMode op c = true then modeDefect m' else none := by
    split
    · rw [hm ‹_›]
    · rfl
  have hsel : (if op = .decpx ∧ packClass c = .nibble then nibbleDefect q else none) =
      if op = .decpx ∧ packClass c = .nibble then nibbleDefect q' else none := by
    split
    · obtain ⟨rfl, hnib⟩ := ‹op = .decpx ∧ packClass c = .nibble›
      rw [hq (usesSel_of_nibble hnib)]
    · rfl
  rw [defect_ofParts, defect_ofParts, hmode, hsel]

/-- Words of instructions with one defect and one effect have one effect. -/
theorem issue_congr {w w' : Word} {i i' : Instr} {s : State} (hw : decode w = checkDefect i)
    (hw' : decode w' = checkDefect i') (hdefect : i.defect = i'.defect) (hexec : exec i s = exec i' s) :
    issue w s = issue w' s := by
  simp only [issue, hw, hw', checkDefect, hdefect]
  cases i'.defect with
  | none => exact hexec
  | some d => cases d <;> rfl

theorem issue_of_reserved {w : Word} {r : Reserved} (h : decode w = .reserved r) (s : State) :
    issue w s = .refused (.reservedWord r) := by simp [issue, h]

theorem issue_of_invalidCodec {w : Word} (h : decode w = .invalidCodec) (s : State) :
    issue w s = .next s.raiseInvalidCodec := by simp [issue, h]

/-- The word of a row is reserved exactly for the operand values of 30_encoding.md R99 c and d. -/
theorem reserved_cmdWord_iff (op : Op) (c : Codec) (m : ModeField) (q : SelField) :
    (∃ r, decode (cmdWord (16 * codecNo c + opNo op) m q) = .reserved r) ↔
      ((opNo op = 3 ∨ opNo op = 4) ∧ (codecNo c = 5 ∨ codecNo c = 6) ∧ modeNo m = 3) ∨
        (opNo op = 3 ∧ (codecNo c = 4 ∨ codecNo c = 6 ∨ codecNo c = 8) ∧ 2 ≤ q.toNat) := by
  rw [decode_cmdWord, exists_reserved_checkDefect_iff, wf_ofParts_iff, usesMode_iff, eq_decpx_iff,
    packClass_nibble_iff, ne_eq, ← modeNo_eq_three_iff]
  omega

end Sys2Proof

namespace Sys2Proof.Proofs

open Sys2Proof.Machine Sys2Proof.Claims

/-- Settles O3: under the mask the word is the row's low byte with some MODE and SEL, and the decoder checks just
those. -/
theorem maskAndMatchSelectRow : Obligations.MaskAndMatchSelectRow := by
  intro w op c
  rw [and_mask_eq_iff w (rowByte_lt op c)]
  constructor
  · rintro ⟨m, q, rfl⟩
    refine ⟨Instr.ofParts op c m q, op_ofParts .., codec_ofParts .., by rw [mode_ofParts, sel_ofParts], ?_⟩
    rw [decode_cmdWord]
    by_cases hwf : (Instr.ofParts op c m q).wf
    · exact .inl (checkDefect_wf hwf)
    · exact .inr ⟨hwf, checkDefect_of_not_wf hwf⟩
  · rintro ⟨i, -, -, hw, -⟩
    exact ⟨i.mode, i.sel, hw⟩

/-- Settles O4, by the four kinds of words the decoder tells apart; the last kind is the word of a row, whose fields
are read off its number. -/
theorem reservedWordsAreRefused : Obligations.ReservedWordsAreRefused := by
  intro w
  refine ⟨?_, fun r hr s => issue_of_reserved hr s⟩
  obtain ⟨hbits, hd⟩ | ⟨hop, hd⟩ | ⟨hbits, hop, hop', hcodec, hd⟩ | ⟨op, c, m, q, rfl⟩ := decode_cases_toNat w
  · exact iff_of_true ⟨_, hd⟩ (.inl hbits)
  · exact iff_of_true ⟨_, hd⟩ (by omega)
  · refine iff_of_false ?_ (by omega)
    rintro ⟨r, hr⟩
    simp [hd] at hr
  · have := opNo_bounds op
    have := codecNo_le c
    have := modeNo_le m
    rw [reserved_cmdWord_iff, cmdWord_toNat (rowByte_lt op c)]
    omega

/-- Settles O5: of the decoder's answers only InvalidCodec has such a word. -/
theorem invalidCodecOnlySetsStatus : Obligations.InvalidCodecOnlySetsStatus := by
  intro w s hbits hop hop' hcodec
  obtain ⟨h, -⟩ | ⟨h, -⟩ | ⟨-, -, -, -, hd⟩ | ⟨op, c, m, q, rfl⟩ := decode_cases_toNat w
  · exact absurd hbits h
  · omega
  · exact issue_of_invalidCodec hd s
  · rw [cmdWord_toNat (rowByte_lt op c)] at hcodec
    have := opNo_bounds op
    have := codecNo_le c
    omega

/-- Settles O6: neither the check of the operand fields nor the meaning of the row sees a field the row ignores. -/
theorem ignoredFieldsHaveNoEffect : Obligations.IgnoredFieldsHaveNoEffect := by
  intro op c m m' q q' s hm hq
  exact issue_congr (decode_cmdWord op c m q) (decode_cmdWord op c m' q') (defect_ofParts_congr hm hq)
    (exec_ofParts_congr s hm hq)

end Sys2Proof.Proofs
end

section
/-! Proofs about FMT and P2B (40_format_metadata.md R120 to R141): when the word of a row runs, then the two operations
for any codec. -/

namespace Sys2Proof.Machine

open Sys2Proof.Claims

/-! ### The word of a row -/

/-- A row's word runs wherever its operand fields are legal and its meaning completes (30_encoding.md R96, R97). -/
theorem runs_ofParts {op : Op} {c : Codec} {m : ModeField} {q : SelField} {s t : State}
    (hwf : (Instr.ofParts op c m q).wf) (hexec : exec (Instr.ofParts op c m q) s = .next t) :
    Runs (16 * codecNo c + opNo op) (Instr.ofParts op c m q) s t := by
  refine ⟨?_, hexec⟩
  rw [mode_ofParts, sel_ofParts, decode_cmdWord, checkDefect_wf hwf]

/-- FMT, P2B and ENC read neither field, so none of their words is reserved (30_encoding.md R100). -/
theorem wf_ofParts_of_ignores {op : Op} {c : Codec} (hmode : usesMode op c = false) (hop : op ≠ .decpx) (m : ModeField)
    (q : SelField) : (Instr.ofParts op c m q).wf := by
  simp [wf_ofParts_iff, hmode, hop]

/-! ### The operations -/

theorem runs_fmt (c : Codec) (m : ModeField) (q : SelField) (s : State) :
    Runs (16 * codecNo c + opNo .fmt) (Instr.ofParts .fmt c m q) s (s.fmt c) :=
  runs_ofParts (wf_ofParts_of_ignores rfl (by decide) m q) (exec_fmt c m q s)

theorem runs_p2b (c : Codec) (m : ModeField) (q : SelField) (s : State) :
    Runs (16 * codecNo c + opNo .p2b) (Instr.ofParts .p2b c m q) s (s.pixelsToBytes c) :=
  runs_ofParts (wf_ofParts_of_ignores rfl (by decide) m q) (exec_p2b c m q s)

/-- BYTECOUNT holds its value whole: PIXCOUNT has 30 bits and a texel at most 4 bytes (00_scope.md R8). -/
theorem byteCount_pixelsToBytes_toNat (s : State) (c : Codec) :
    (s.pixelsToBytes c).byteCount.toNat = p2b c s.pixCount.toNat := by
  have hpix := s.pixCount.isLt
  have hbytes := p2b_le c s.pixCount.toNat
  rw [State.pixelsToBytes_byteCount, BitVec.toNat_ofNat, Nat.mod_eq_of_lt (by omega)]

/-- P2B of any codec completes with the byte count in BYTECOUNT and 0 in STATUS, and changes nothing else. -/
theorem p2b_counts (c : Codec) (m : ModeField) (q : SelField) (s : State) :
    ∃ t, Runs (16 * codecNo c + opNo .p2b) (Instr.ofParts .p2b c m q) s t ∧
      t = { s with byteCount := t.byteCount, status := 0 } ∧ t.byteCount.toNat = p2b c s.pixCount.toNat :=
  ⟨s.pixelsToBytes c, runs_p2b c m q s, rfl, byteCount_pixelsToBytes_toNat s c⟩

end Sys2Proof.Machine

namespace Sys2Proof.Proofs

open Sys2Proof.Machine Sys2Proof.Claims

/-- Settles O18: each row is FMT of its codec, whose class code and palette flag are the stated value. -/
theorem fmtReportsClassAndPalette : Obligations.FmtReportsClassAndPalette := by
  intro m q s
  exact ⟨runs_fmt .rgba16 m q s, runs_fmt .rgba32 m q s, runs_fmt .ia16 m q s, runs_fmt .ia8 m q s,
    runs_fmt .ia4 m q s, runs_fmt .i8 m q s, runs_fmt .i4 m q s, runs_fmt .ci8 m q s, runs_fmt .ci4 m q s,
    runs_fmt .oneBpp m q s⟩

/-- Settles O19: each row is P2B of its codec, whose packing class gives the stated count. -/
theorem p2bCountsBytes : Obligations.P2bCountsBytes := by
  intro m q s
  exact List.forall_iff_forall_mem.mp
    ⟨p2b_counts .rgba16 m q s, p2b_counts .rgba32 m q s, p2b_counts .ia16 m q s, p2b_counts .ia8 m q s,
      p2b_counts .ia4 m q s, p2b_counts .i8 m q s, p2b_counts .i4 m q s, p2b_counts .ci8 m q s,
      p2b_counts .ci4 m q s, p2b_counts .oneBpp m q s⟩

end Sys2Proof.Proofs
end

section
/-! Proofs about DECPX (41_decode_pixel.md R150 to R169): the Color of a texel as a number, when a DECPX is admitted and
what it then leaves, and the ten codecs. -/

namespace Sys2Proof.Machine

open Sys2Proof.Claims

/-! ### Colors as numbers -/

/-- A Color as the number `A<<24 | R<<16 | G<<8 | B` (10_state.md R46). -/
def colorNo (c : Color) : Nat := argb c.a.toNat c.r.toNat c.g.toNat c.b.toNat

@[simp] theorem colorToWord_toNat_eq_colorNo (c : Color) : (colorToWord c).toNat = colorNo c := colorToWord_toNat c

@[simp] theorem colorNo_grey (alpha i : Byte) : colorNo (grey alpha i) = greyNo alpha.toNat i.toNat := rfl

/-! ### The scalings as numbers -/

@[simp] theorem up1_toNat (t : Bool) : (up1 t).toNat = 255 * t.toNat := by cases t <;> rfl

@[simp] theorem up3_toNat (v : BitVec 3) : (up3 v).toNat = v.toNat * 255 / 7 := by
  have := v.isLt
  rw [up3, BitVec.toNat_ofNat]
  omega

@[simp] theorem up4_toNat (v : BitVec 4) : (up4 v).toNat = v.toNat * 17 := by
  have := v.isLt
  rw [up4, BitVec.toNat_ofNat]
  omega

@[simp] theorem up5_toNat (v : BitVec 5) : (up5 v).toNat = up5No v.toNat := by
  have := v.isLt
  rw [up5, up5No, BitVec.toNat_ofNat]
  omega

@[simp] theorem alphaOf_toNat (m : AlphaMode) (i : Byte) : (alphaOf m i).toNat = alphaNo m i.toNat := by
  cases m with
  | copyIntensity => rfl
  | binary =>
    have hzero : i = 0#8 ↔ i.toNat = 0 := BitVec.toNat_inj.symm
    simp only [alphaOf, alphaNo, hzero]
    split <;> rfl
  | full => rfl

/-! ### Bit fields as numbers -/

theorem getLsbD_toNat {n : Nat} (x : BitVec n) (i : Nat) : (x.getLsbD i).toNat = x.toNat / 2 ^ i % 2 := by
  rw [BitVec.getLsbD, Nat.toNat_testBit]

theorem nib_toNat_eq_nibNo (b : Byte) (k : Nat) : (nib b k).toNat = nibNo b.toNat k := nib_toNat b k

theorem bitOf_toNat (b : Byte) (k : Nat) : (bitOf b k).toNat = bitNo b.toNat k := getLsbD_toNat b (7 - k)

/-! ### Texels as numbers -/

theorem colorNo_rgba16ToColor (b0 b1 : Byte) : colorNo (rgba16ToColor b0 b1) = rgba16No b0.toNat b1.toNat := by
  simp only [colorNo, rgba16ToColor, rgba16No, up1_toNat, up5_toNat, getLsbD_toNat, toNat_extract, toNat_app]
  norm_num

theorem colorNo_palColor (s : State) (k : Nat) : colorNo (s.palColor k) = palColorNo s k := colorNo_rgba16ToColor _ _

theorem colorNo_texRgba16 (s : State) (a : Nat) : colorNo (s.texRgba16 a) = rgba16No (srcNo s a) (srcNo s (a + 1)) :=
  colorNo_rgba16ToColor _ _

theorem colorNo_texRgba32 (s : State) (a : Nat) :
    colorNo (s.texRgba32 a) = rgba32No (srcNo s a) (srcNo s (a + 1)) (srcNo s (a + 2)) (srcNo s (a + 3)) := rfl

theorem colorNo_texIa16 (s : State) (a : Nat) : colorNo (s.texIa16 a) = ia16No (srcNo s a) (srcNo s (a + 1)) := rfl

theorem colorNo_texIa8 (s : State) (a : Nat) : colorNo (s.texIa8 a) = ia8No (srcNo s a) := by
  have hhigh : (s.srcAt a 0).toNat / 2 ^ 4 % 2 ^ 4 = (s.srcAt a 0).toNat / 16 := by
    have := (s.srcAt a 0).isLt
    omega
  rw [State.texIa8, colorNo_grey, up4_toNat, up4_toNat, toNat_extract, toNat_extract, hhigh]
  simp [ia8No, srcNo, State.srcAt]

theorem colorNo_texIa4 (s : State) (a k : Nat) : colorNo (s.texIa4 a k) = ia4No (nibNo (srcNo s a) k) := by
  have hhigh : (nib (s.srcAt a 0) k).toNat / 2 ^ 1 % 2 ^ 3 = (nib (s.srcAt a 0) k).toNat / 2 := by
    have := (nib (s.srcAt a 0) k).isLt
    omega
  rw [State.texIa4, colorNo_grey, up1_toNat, up3_toNat, getLsbD_toNat, toNat_extract, hhigh, nib_toNat_eq_nibNo]
  simp [ia4No, srcNo, State.srcAt]

theorem colorNo_texI8 (s : State) (m : AlphaMode) (a : Nat) : colorNo (s.texI8 m a) = i8No m (srcNo s a) := by
  rw [State.texI8, colorNo_grey, alphaOf_toNat]
  rfl

theorem colorNo_texI4 (s : State) (m : AlphaMode) (a k : Nat) :
    colorNo (s.texI4 m a k) = i4No m (nibNo (srcNo s a) k) := by
  rw [State.texI4, colorNo_grey, alphaOf_toNat, up4_toNat, nib_toNat_eq_nibNo]
  rfl

theorem texelIndex_ci8 (s : State) (a k : Nat) : s.texelIndex .ci8 a k = srcNo s a := rfl

theorem texelIndex_ci4 (s : State) (a k : Nat) : s.texelIndex .ci4 a k = nibNo (srcNo s a) k :=
  nib_toNat_eq_nibNo _ _

theorem colorNo_texCi8 (s : State) (a : Nat) : colorNo (s.texCi8 a) = palColorNo s (srcNo s a) :=
  colorNo_palColor _ _

theorem colorNo_texCi4 (s : State) (a k : Nat) : colorNo (s.texCi4 a k) = palColorNo s (nibNo (srcNo s a) k) := by
  rw [State.texCi4, colorNo_palColor, texelIndex_ci4]

theorem colorNo_texOneBpp (s : State) (a k : Nat) : colorNo (s.texOneBpp a k) = oneBppNo (bitNo (srcNo s a) k) := by
  rw [State.texOneBpp, colorNo_grey, up1_toNat, bitOf_toNat]
  rfl

/-! ### Admission -/

theorem need_eq_bytesNeeded (c : Codec) : need c = bytesNeeded c := by cases c <;> rfl

theorem readsMode_iff (c : Codec) : readsMode c = true ↔ c = .i8 ∨ c = .i4 := by cases c <;> decide

theorem packClass_nibble_iff_codec (c : Codec) : packClass c = .nibble ↔ c = .ia4 ∨ c = .i4 ∨ c = .ci4 := by
  cases c <;> decide

theorem needsPalette_iff (c : Codec) : needsPalette c = true ↔ c = .ci8 ∨ c = .ci4 := by cases c <;> decide

theorem modeNo_le_two_iff (m : ModeField) : modeNo m ≤ 2 ↔ m ≠ none := by
  have := modeNo_le m
  rw [ne_eq, ← modeNo_eq_three_iff]
  omega

/-- The conditions of 41_decode_pixel.md R159 in the words of the claims. -/
theorem decpx_admitted_iff (s : State) (c : Codec) (m : ModeField) (q : SelField) :
    s.decpxRefusal c m q = none ↔
      PixelIn s (bytesNeeded c) ∧ (readsMode c = true → m ≠ none) ∧ (packClass c = .nibble → q.toNat ≤ 1) ∧
        (needsPalette c = true → EntryIn s (s.texelIndex c s.offset.toNat q.toNat)) := by
  rw [decpxRefusal_eq_none_iff, inSource_iff, inPalette_iff, need_eq_bytesNeeded, PixelIn, EntryIn]
  tauto

theorem exists_next_decpx_iff (s : State) (c : Codec) (m : ModeField) (q : SelField) :
    (∃ t, exec (Instr.ofParts .decpx c m q) s = .next t) ↔ s.decpxRefusal c m q = none := by
  simp [exec_decpx, decpx_next_iff]

/-- A DECPX that is not admitted is refused, with no third outcome (41_decode_pixel.md R159). -/
theorem refuses_decpx_iff (s : State) (c : Codec) (m : ModeField) (q : SelField) :
    Refuses (Instr.ofParts .decpx c m q) s ↔ s.decpxRefusal c m q ≠ none := by
  rw [Refuses, exec_decpx, State.decpx]
  cases s.decpxRefusal c m q <;> simp

/-- An admitted instruction has no reserved operand field, so its word decodes to it. -/
theorem wf_of_decpx_admitted {s : State} {c : Codec} {m : ModeField} {q : SelField}
    (h : s.decpxRefusal c m q = none) : (Instr.ofParts .decpx c m q).wf := by
  obtain ⟨-, hmode, hsel, -⟩ := (decpx_admitted_iff s c m q).mp h
  rw [wf_ofParts_iff, usesMode_decpx]
  exact ⟨hmode, fun hnib => hsel hnib.2⟩

/-! ### What an admitted DECPX leaves -/

theorem pixelDone_putPixel (s : State) (c : Color) : PixelDone s (s.putPixel c) (colorNo c) :=
  ⟨rfl, colorToWord_toNat_eq_colorNo c⟩

/-- An admitted DECPX of any codec completes with its texel's Color in COLOR and 0 in STATUS, and changes nothing
else (41_decode_pixel.md R158). -/
theorem decpx_done {s : State} {c : Codec} {m : ModeField} {q : SelField} {v : Nat}
    (h : s.decpxRefusal c m q = none) (hv : colorNo (s.decpxColor c m q) = v) :
    ∃ t, Runs (16 * codecNo c + opNo .decpx) (Instr.ofParts .decpx c m q) s t ∧ PixelDone s t v := by
  have hexec : exec (Instr.ofParts .decpx c m q) s = .next (s.putPixel (s.decpxColor c m q)) := by
    rw [exec_decpx, decpx_next_iff]
    exact ⟨h, rfl⟩
  exact ⟨_, runs_ofParts (wf_of_decpx_admitted h) hexec, hv ▸ pixelDone_putPixel s _⟩

/-- For a codec that reads neither MODE nor a nibble nor a palette, an in-bounds texel is all that is asked. -/
theorem decpx_done_of_plain {s : State} {c : Codec} {m : ModeField} {q : SelField} {v : Nat}
    (hmode : readsMode c = false) (hnib : packClass c ≠ .nibble) (hpal : needsPalette c = false)
    (hin : PixelIn s (bytesNeeded c)) (hv : colorNo (s.decpxColor c m q) = v) :
    ∃ t, Runs (16 * codecNo c + opNo .decpx) (Instr.ofParts .decpx c m q) s t ∧ PixelDone s t v :=
  decpx_done ((decpx_admitted_iff s c m q).mpr (by simp [hmode, hnib, hpal, hin])) hv

end Sys2Proof.Machine

namespace Sys2Proof.Proofs

open Sys2Proof.Machine Sys2Proof.Claims

/-- Settles O20: the texel only has to be in bounds, and its pair gives the stated channels. -/
theorem decpxRgba16Color : Obligations.DecpxRgba16Color := by
  intro m q s hin
  exact decpx_done_of_plain (c := .rgba16) rfl (by decide) rfl hin (colorNo_texRgba16 s _)

/-- Settles O21: the texels only have to be in bounds, and their bytes are the channels. -/
theorem decpxWholeByteColors : Obligations.DecpxWholeByteColors := by
  intro m q s
  exact ⟨fun hin => decpx_done_of_plain (c := .rgba32) rfl (by decide) rfl hin (colorNo_texRgba32 s _),
    fun hin => decpx_done_of_plain (c := .ia16) rfl (by decide) rfl hin (colorNo_texIa16 s _)⟩

/-- Settles O22: IA4 asks for a legal selector besides. -/
theorem decpxIntensityAlphaColors : Obligations.DecpxIntensityAlphaColors := by
  intro m q s hin
  have hadm : s.decpxRefusal .ia4 m q = none ↔ q.toNat ≤ 1 := by
    simp [decpx_admitted_iff, bytesNeeded, readsMode, packClass, needsPalette, hin]
  refine ⟨decpx_done_of_plain (c := .ia8) rfl (by decide) rfl hin (colorNo_texIa8 s _),
    fun hq => decpx_done (c := .ia4) (hadm.mpr hq) (colorNo_texIa4 s _ _), fun hq => ?_⟩
  exact (refuses_decpx_iff s .ia4 m q).mpr (by rw [ne_eq, hadm]; omega)

/-- Settles O23: I8 asks for a legal mode besides, I4 for a legal mode and a legal selector. -/
theorem decpxIntensityColors : Obligations.DecpxIntensityColors := by
  intro m q s hin
  have hi8 (m' : ModeField) : s.decpxRefusal .i8 m' q = none ↔ m' ≠ none := by
    simp [decpx_admitted_iff, bytesNeeded, readsMode, packClass, needsPalette, hin]
  have hi4 (m' : ModeField) : s.decpxRefusal .i4 m' q = none ↔ m' ≠ none ∧ q.toNat ≤ 1 := by
    simp [decpx_admitted_iff, bytesNeeded, readsMode, packClass, needsPalette, hin]
  refine ⟨decpx_done (c := .i8) ((hi8 (some m)).mpr (by simp)) (colorNo_texI8 s m _),
    fun hq => decpx_done (c := .i4) ((hi4 (some m)).mpr ⟨by simp, hq⟩) (colorNo_texI4 s m _ _), ?_, ?_, fun hq => ?_⟩
  · exact (refuses_decpx_iff s .i8 none q).mpr (by simp [hi8])
  · exact (refuses_decpx_iff s .i4 none q).mpr (by simp [hi4])
  · exact (refuses_decpx_iff s .i4 (some m) q).mpr fun h => by have := ((hi4 _).mp h).2; omega

/-- Settles O24: CI8 asks for the palette entry besides, CI4 for the entry and a legal selector. -/
theorem decpxPaletteColors : Obligations.DecpxPaletteColors := by
  intro m q s hin
  have hci8 : s.decpxRefusal .ci8 m q = none ↔ EntryIn s (srcNo s s.offset.toNat) := by
    simp [decpx_admitted_iff, bytesNeeded, readsMode, packClass, needsPalette, texelIndex_ci8, hin]
  have hci4 : s.decpxRefusal .ci4 m q = none ↔
      q.toNat ≤ 1 ∧ EntryIn s (nibNo (srcNo s s.offset.toNat) q.toNat) := by
    simp [decpx_admitted_iff, bytesNeeded, readsMode, packClass, needsPalette, texelIndex_ci4, hin]
  refine ⟨fun hk => decpx_done (c := .ci8) (hci8.mpr hk) (colorNo_texCi8 s _),
    fun hq hk => decpx_done (c := .ci4) (hci4.mpr ⟨hq, hk⟩) (colorNo_texCi4 s _ _), fun hk => ?_, fun hqk => ?_⟩
  · exact (refuses_decpx_iff s .ci8 m q).mpr (by rwa [ne_eq, hci8])
  · refine (refuses_decpx_iff s .ci4 m q).mpr ?_
    rwa [ne_eq, hci4, not_and_or, not_le]

/-- Settles O25: every selector is legal, so the texel only has to be in bounds. -/
theorem decpxOneBppColor : Obligations.DecpxOneBppColor := by
  intro m q s hin
  exact decpx_done_of_plain (c := .oneBpp) rfl (by decide) rfl hin (colorNo_texOneBpp s _ _)

/-- Settles O26: the stated conditions are the model's admission, and an admission that fails is a refusal. -/
theorem decpxAdmission : Obligations.DecpxAdmission := by
  intro c m q s i admitted
  have hpal : (needsPalette c = true → EntryIn s (s.texelIndex c s.offset.toNat q.toNat)) ↔
      (c = .ci8 → EntryIn s (srcNo s s.offset.toNat)) ∧
        (c = .ci4 → EntryIn s (nibNo (srcNo s s.offset.toNat) q.toNat)) := by
    rw [needsPalette_iff, or_imp]
    refine and_congr (imp_congr_right ?_) (imp_congr_right ?_)
    · rintro rfl
      rw [texelIndex_ci8]
    · rintro rfl
      rw [texelIndex_ci4]
  have hadm : s.decpxRefusal c m q = none ↔ admitted := by
    rw [decpx_admitted_iff, hpal, readsMode_iff, packClass_nibble_iff_codec, ← modeNo_le_two_iff]
    simp only [admitted, PixelIn, EntryIn]
    tauto
  exact ⟨fun h => (exists_next_decpx_iff s c m q).mpr (hadm.mpr h),
    fun h => (refuses_decpx_iff s c m q).mpr (mt hadm.mp h)⟩

end Sys2Proof.Proofs
end

section
/-! Proofs about DECRGN (42_decode_region.md R190 to R204): where the texels of a region lie, when a DECRGN is admitted
and what it then leaves, and the ten codecs. -/

namespace Sys2Proof.Machine

open Sys2Proof.Claims

/-! ### Where a texel lies -/

theorem texelAddr_oneByte {c : Codec} (h : packClass c = .oneByte) (base : Nat) :
    texelAddr c base = fun idx => base + idx := by
  funext idx
  simp [texelAddr, h]

theorem texelAddr_twoBytes {c : Codec} (h : packClass c = .twoBytes) (base : Nat) :
    texelAddr c base = fun idx => base + 2 * idx := by
  funext idx
  simp [texelAddr, h, Nat.mul_comm]

theorem texelAddr_fourBytes {c : Codec} (h : packClass c = .fourBytes) (base : Nat) :
    texelAddr c base = fun idx => base + 4 * idx := by
  funext idx
  simp [texelAddr, h, Nat.mul_comm]

theorem texelAddr_nibble {c : Codec} (h : packClass c = .nibble) (base : Nat) :
    texelAddr c base = fun idx => base + idx / 2 := by
  funext idx
  simp [texelAddr, h]

theorem texelAddr_bit {c : Codec} (h : packClass c = .bit) (base : Nat) :
    texelAddr c base = fun idx => base + idx / 8 := by
  funext idx
  simp [texelAddr, h]

theorem le_texelAddr (c : Codec) (base idx : Nat) : base ≤ texelAddr c base idx := by
  unfold texelAddr
  split <;> exact Nat.le_add_right _ _

theorem texelSel_le_one_of_nibble {c : Codec} (h : packClass c = .nibble) (idx : Nat) : texelSel c idx ≤ 1 := by
  rw [texelSel, h]
  exact Nat.lt_succ_iff.mp (Nat.mod_lt idx Nat.two_pos)

theorem bytesNeeded_pos (c : Codec) : 0 < bytesNeeded c := by cases c <;> decide

/-- The texel of an indexed codec takes one byte or less (20_memory.md R64). -/
theorem bytesNeeded_of_needsPalette {c : Codec} (h : needsPalette c = true) : bytesNeeded c = 1 := by
  revert h; cases c <;> decide

theorem regionInSource_iff_texelIn (s : State) (c : Codec) (idx : Nat) :
    s.regionInSource c idx = true ↔ TexelIn s (bytesNeeded c) (texelAddr c s.offset.toNat idx) := by
  rw [regionInSource_iff, need_eq_bytesNeeded, TexelIn]

/-! ### Admission -/

/-- The palette index of texel `idx` of the region (42_decode_region.md R202, R203). -/
def State.regionIndex (s : State) (c : Codec) (idx : Nat) : Nat :=
  s.texelIndex c (texelAddr c s.offset.toNat idx) (texelSel c idx)

theorem regionPalette_ci8_iff (s : State) :
    RegionPalette s (texelAddr .ci8 s.offset.toNat) (s.regionIndex .ci8) ↔
      RegionPalette s (fun idx => s.offset.toNat + idx) fun idx => srcNo s (s.offset.toNat + idx) := by
  have hindex : s.regionIndex .ci8 = fun idx => srcNo s (s.offset.toNat + idx) := by
    funext idx
    rw [State.regionIndex, texelIndex_ci8, texelAddr_oneByte rfl]
  rw [hindex, texelAddr_oneByte rfl]

theorem regionPalette_ci4_iff (s : State) :
    RegionPalette s (texelAddr .ci4 s.offset.toNat) (s.regionIndex .ci4) ↔
      RegionPalette s (fun idx => s.offset.toNat + idx / 2) fun idx =>
        nibNo (srcNo s (s.offset.toNat + idx / 2)) (idx % 2) := by
  have hindex : s.regionIndex .ci4 = fun idx => nibNo (srcNo s (s.offset.toNat + idx / 2)) (idx % 2) := by
    funext idx
    rw [State.regionIndex, texelIndex_ci4, texelAddr_nibble rfl]
    rfl
  rw [hindex, texelAddr_nibble rfl]

theorem regionPaletteOk_iff_texelIn {c : Codec} (h : needsPalette c = true) (s : State) (idx : Nat) :
    s.regionPaletteOk c idx = true ↔
      (TexelIn s 1 (texelAddr c s.offset.toNat idx) → 2 * s.regionIndex c idx + 1 < s.palLen.toNat) := by
  rw [regionPaletteOk_iff, regionInSource_iff_texelIn, bytesNeeded_of_needsPalette h, inPalette_iff, State.regionIndex]

/-- The conditions of 42_decode_region.md R194 in the words of the claims. -/
theorem decrgn_admitted_iff (s : State) (c : Codec) (m : ModeField) :
    s.decrgnRefusal c m = none ↔
      RegionFits s ∧ (readsMode c = true → m ≠ none) ∧
        (needsPalette c = true → RegionPalette s (texelAddr c s.offset.toNat) (s.regionIndex c)) := by
  have hpal : (needsPalette c = true → s.palLen.toNat ≤ s.caps.palCap ∧
        ∀ idx, idx < s.pixels → s.regionPaletteOk c idx = true) ↔
      (needsPalette c = true → RegionPalette s (texelAddr c s.offset.toNat) (s.regionIndex c)) :=
    imp_congr_right fun h => by simp only [regionPaletteOk_iff_texelIn h]; rfl
  rw [decrgnRefusal_eq_none_iff, hpal, RegionFits, pixelCount, State.pixels]
  tauto

/-- A DECRGN that is not admitted is refused, with no third outcome (42_decode_region.md R194). -/
theorem refuses_decrgn_iff (s : State) (c : Codec) (m : ModeField) (q : SelField) :
    Refuses (Instr.ofParts .decrgn c m q) s ↔ s.decrgnRefusal c m ≠ none := by
  rw [Refuses, exec_decrgn, State.decrgn]
  cases s.decrgnRefusal c m <;> simp

theorem refuses_decrgn_of_reserved_mode {c : Codec} (h : readsMode c = true) (q : SelField) (s : State) :
    Refuses (Instr.ofParts .decrgn c none q) s := by
  rw [refuses_decrgn_iff, ne_eq, decrgn_admitted_iff]
  rintro ⟨-, hmode, -⟩
  exact hmode h rfl

/-- An admitted instruction has no reserved operand field, so its word decodes to it. -/
theorem wf_of_decrgn_admitted {s : State} {c : Codec} {m : ModeField} (h : s.decrgnRefusal c m = none)
    (q : SelField) : (Instr.ofParts .decrgn c m q).wf := by
  obtain ⟨-, hmode, -⟩ := (decrgn_admitted_iff s c m).mp h
  rw [wf_ofParts_iff, usesMode_decrgn]
  exact ⟨hmode, fun hop => nomatch hop.1⟩

/-! ### What an admitted DECRGN leaves -/

/-- The state an admitted DECRGN leaves (42_decode_region.md R190). -/
def State.afterRegion (s : State) (c : Codec) (m : ModeField) : State :=
  s.putBitmap (ascending s.pixels (s.regionTexel c m) s.bmp)

theorem exec_decrgn_next_iff (s t : State) (c : Codec) (m : ModeField) (q : SelField) :
    exec (Instr.ofParts .decrgn c m q) s = .next t ↔ s.decrgnRefusal c m = none ∧ t = s.afterRegion c m := by
  rw [exec_decrgn, decrgn_next_iff, State.afterRegion]

theorem exists_next_decrgn_iff (s : State) (c : Codec) (m : ModeField) (q : SelField) :
    (∃ t, exec (Instr.ofParts .decrgn c m q) s = .next t) ↔ s.decrgnRefusal c m = none := by
  simp [exec_decrgn_next_iff]

/-- A texel of the region in bounds of the source is decoded (42_decode_region.md R190). -/
theorem readTexel_afterRegion_of_texelIn {s : State} {c : Codec} {idx : Nat} (m : ModeField)
    (h : idx < pixelCount s ∧ TexelIn s (bytesNeeded c) (texelAddr c s.offset.toNat idx)) :
    (s.afterRegion c m).readTexel idx = s.regionColor c m idx := by
  rw [← regionInSource_iff_texelIn] at h
  exact (regionLoop_read s c m s.pixels s.bmp idx).trans (if_pos h)

theorem bmpNo_afterRegion_of_texelIn {s : State} {c : Codec} {idx : Nat} (m : ModeField)
    (h : idx < pixelCount s ∧ TexelIn s (bytesNeeded c) (texelAddr c s.offset.toNat idx)) :
    bmpNo (s.afterRegion c m) idx = colorNo (s.regionColor c m idx) :=
  congrArg colorNo (readTexel_afterRegion_of_texelIn m h)

/-- Every other texel of BMP is left alone (42_decode_region.md R192, R193). -/
theorem readTexel_afterRegion_of_not_texelIn {s : State} {c : Codec} {idx : Nat} (m : ModeField)
    (h : ¬(idx < pixelCount s ∧ TexelIn s (bytesNeeded c) (texelAddr c s.offset.toNat idx))) :
    (s.afterRegion c m).readTexel idx = s.readTexel idx := by
  rw [← regionInSource_iff_texelIn] at h
  exact (regionLoop_read s c m s.pixels s.bmp idx).trans (if_neg h)

/-- A DECRGN none of whose texels is in bounds changes only STATUS (42_decode_region.md R192, R194). -/
theorem afterRegion_of_none_texelIn {s : State} {c : Codec} (m : ModeField)
    (h : ∀ idx, idx < pixelCount s → ¬TexelIn s (bytesNeeded c) (texelAddr c s.offset.toNat idx)) :
    s.afterRegion c m = { s with status := 0 } := by
  have hbmp : ascending s.pixels (s.regionTexel c m) s.bmp = s.bmp :=
    ascending_induct (fun _ b => b = s.bmp) rfl fun k hk b hb => by
      rw [State.regionTexel, if_neg (mt (regionInSource_iff_texelIn s c k).mp (h k hk)), hb]
  rw [State.afterRegion, hbmp]
  rfl

/-- The texels of the region lie at the spec's addresses and their Colors have the stated values, so BMP holds what the
command promises (42_decode_region.md R190, R192, R193). -/
theorem regionDone_afterRegion {s : State} {c : Codec} {m : ModeField} {addr val : Nat → Nat}
    (haddr : texelAddr c s.offset.toNat = addr)
    (hval : ∀ idx, colorNo (s.decodeTexel c (modeOf m) (addr idx) (texelSel c idx)) = val idx) :
    RegionDone s (s.afterRegion c m) (bytesNeeded c) addr val := by
  subst haddr
  exact ⟨rfl, fun idx => ⟨fun h => (bmpNo_afterRegion_of_texelIn m h).trans (hval idx),
    readTexel_afterRegion_of_not_texelIn m⟩⟩

/-- An admitted DECRGN of any codec runs from its word, with the region's Colors in BMP and 0 in STATUS. -/
theorem decrgn_done {s : State} {c : Codec} {m : ModeField} {q : SelField} {addr val : Nat → Nat}
    (h : s.decrgnRefusal c m = none) (haddr : texelAddr c s.offset.toNat = addr)
    (hval : ∀ idx, colorNo (s.decodeTexel c (modeOf m) (addr idx) (texelSel c idx)) = val idx) :
    ∃ t, Runs (16 * codecNo c + opNo .decrgn) (Instr.ofParts .decrgn c m q) s t ∧
      RegionDone s t (bytesNeeded c) addr val :=
  ⟨s.afterRegion c m, runs_ofParts (wf_of_decrgn_admitted h q) ((exec_decrgn_next_iff s _ c m q).mpr ⟨h, rfl⟩),
    regionDone_afterRegion haddr hval⟩

/-- For a codec that reads neither MODE nor a palette, a region that fits is all that is asked. -/
theorem decrgn_done_of_plain {s : State} {c : Codec} {m : ModeField} {q : SelField} {addr val : Nat → Nat}
    (hmode : readsMode c = false) (hpal : needsPalette c = false) (hfits : RegionFits s)
    (haddr : texelAddr c s.offset.toNat = addr)
    (hval : ∀ idx, colorNo (s.decodeTexel c (modeOf m) (addr idx) (texelSel c idx)) = val idx) :
    ∃ t, Runs (16 * codecNo c + opNo .decrgn) (Instr.ofParts .decrgn c m q) s t ∧
      RegionDone s t (bytesNeeded c) addr val :=
  decrgn_done ((decrgn_admitted_iff s c m).mpr (by simp [hmode, hpal, hfits])) haddr hval

/-! ### One texel by DECPX -/

/-- The same state with OFFSET at texel `idx` of the region (42_decode_region.md R191). -/
def State.atTexel (s : State) (c : Codec) (idx : Nat) : State :=
  { s with offset := BitVec.ofNat 32 (texelAddr c s.offset.toNat idx) }

theorem decodeTexel_atTexel (s : State) (c : Codec) (idx : Nat) : (s.atTexel c idx).decodeTexel = s.decodeTexel := rfl

theorem texelIndex_atTexel (s : State) (c : Codec) (idx : Nat) : (s.atTexel c idx).texelIndex = s.texelIndex := rfl

/-- The address of an in-bounds texel is below SRCLEN, so OFFSET holds it whole (00_scope.md R8). -/
theorem offset_atTexel_toNat {s : State} {c : Codec} {idx : Nat}
    (hin : TexelIn s (bytesNeeded c) (texelAddr c s.offset.toNat idx)) :
    (s.atTexel c idx).offset.toNat = texelAddr c s.offset.toNat idx := by
  have hlen := s.srcLen.isLt
  have hneed := bytesNeeded_pos c
  unfold TexelIn at hin
  rw [State.atTexel, BitVec.toNat_ofNat, Nat.mod_eq_of_lt (by omega)]

/-- An in-bounds texel of an admitted region is admitted as a single pixel (41_decode_pixel.md R159,
42_decode_region.md R191). -/
theorem decpx_admitted_of_decrgn {s : State} {c : Codec} {m : ModeField} {q : SelField} {idx : Nat}
    (h : s.decrgnRefusal c m = none) (hidx : idx < pixelCount s)
    (hin : TexelIn s (bytesNeeded c) (texelAddr c s.offset.toNat idx)) (hq : q.toNat = texelSel c idx) :
    (s.atTexel c idx).decpxRefusal c m q = none := by
  obtain ⟨⟨-, hsrc⟩, hmode, hpal⟩ := (decrgn_admitted_iff s c m).mp h
  have haddr := offset_atTexel_toNat hin
  rw [decpx_admitted_iff, texelIndex_atTexel, haddr, hq]
  refine ⟨⟨hsrc, by rwa [haddr]⟩, hmode, fun hnib => texelSel_le_one_of_nibble hnib idx, fun hneeds => ?_⟩
  obtain ⟨hcap, hentry⟩ := hpal hneeds
  rw [bytesNeeded_of_needsPalette hneeds] at hin
  exact ⟨hcap, hentry idx hidx hin⟩

/-- DECPX at the address and selector of a texel of the region yields the region's Color (42_decode_region.md R191). -/
theorem decpxColor_atTexel {s : State} {c : Codec} {q : SelField} {idx : Nat} (m : ModeField)
    (hin : TexelIn s (bytesNeeded c) (texelAddr c s.offset.toNat idx)) (hq : q.toNat = texelSel c idx) :
    (s.atTexel c idx).decpxColor c m q = s.regionColor c m idx := by
  rw [State.decpxColor, decodeTexel_atTexel, offset_atTexel_toNat hin, hq, State.regionColor]

theorem exec_decpx_atTexel {s : State} {c : Codec} {m : ModeField} {q : SelField} {idx : Nat}
    (h : s.decrgnRefusal c m = none) (hidx : idx < pixelCount s)
    (hin : TexelIn s (bytesNeeded c) (texelAddr c s.offset.toNat idx)) (hq : q.toNat = texelSel c idx) :
    exec (Instr.ofParts .decpx c m q) (s.atTexel c idx) =
      .next ((s.atTexel c idx).putPixel (s.regionColor c m idx)) := by
  rw [exec_decpx, decpx_next_iff, decpxColor_atTexel m hin hq]
  exact ⟨decpx_admitted_of_decrgn h hidx hin hq, rfl⟩

end Sys2Proof.Machine

namespace Sys2Proof.Proofs

open Sys2Proof.Machine Sys2Proof.Claims

/-- Settles O28: a region that fits is admitted, and each codec's texels lie one, two or four bytes apart. -/
theorem decrgnWholeByteRegions : Obligations.DecrgnWholeByteRegions := by
  intro m q s hfits
  exact ⟨decrgn_done_of_plain (c := .rgba16) rfl rfl hfits (texelAddr_twoBytes rfl _) fun _ => colorNo_texRgba16 s _,
    decrgn_done_of_plain (c := .rgba32) rfl rfl hfits (texelAddr_fourBytes rfl _) fun _ => colorNo_texRgba32 s _,
    decrgn_done_of_plain (c := .ia16) rfl rfl hfits (texelAddr_twoBytes rfl _) fun _ => colorNo_texIa16 s _,
    decrgn_done_of_plain (c := .ia8) rfl rfl hfits (texelAddr_oneByte rfl _) fun _ => colorNo_texIa8 s _⟩

/-- Settles O29: a region that fits is admitted, and the linear index alone gives byte and selector. -/
theorem decrgnPackedRegions : Obligations.DecrgnPackedRegions := by
  intro m q s hfits
  exact ⟨decrgn_done_of_plain (c := .ia4) rfl rfl hfits (texelAddr_nibble rfl _) fun _ => colorNo_texIa4 s _ _,
    decrgn_done_of_plain (c := .oneBpp) rfl rfl hfits (texelAddr_bit rfl _) fun _ => colorNo_texOneBpp s _ _⟩

/-- Settles O30: the two codecs ask for one of the three modes besides, in every state. -/
theorem decrgnIntensityRegions : Obligations.DecrgnIntensityRegions := by
  intro q s
  refine ⟨fun hfits m => ?_, refuses_decrgn_of_reserved_mode (c := .i8) rfl q s,
    refuses_decrgn_of_reserved_mode (c := .i4) rfl q s⟩
  have hadm {c : Codec} (hpal : needsPalette c = false) : s.decrgnRefusal c (some m) = none := by
    simp [decrgn_admitted_iff, hfits, hpal]
  exact ⟨decrgn_done (c := .i8) (hadm rfl) (texelAddr_oneByte rfl _) fun _ => colorNo_texI8 s m _,
    decrgn_done (c := .i4) (hadm rfl) (texelAddr_nibble rfl _) fun _ => colorNo_texI4 s m _ _⟩

/-- Settles O31: the two codecs ask for the entries of their in-bounds texels besides. -/
theorem decrgnPaletteRegions : Obligations.DecrgnPaletteRegions := by
  intro m q s hfits a1 a2 k1 k2
  have hci8 : s.decrgnRefusal .ci8 m = none ↔ RegionPalette s a1 k1 := by
    simp [decrgn_admitted_iff, hfits, readsMode, needsPalette, regionPalette_ci8_iff, a1, k1]
  have hci4 : s.decrgnRefusal .ci4 m = none ↔ RegionPalette s a2 k2 := by
    simp [decrgn_admitted_iff, hfits, readsMode, needsPalette, regionPalette_ci4_iff, a2, k2]
  refine ⟨fun hk => decrgn_done (c := .ci8) (hci8.mpr hk) (texelAddr_oneByte rfl _) fun _ => colorNo_texCi8 s _,
    fun hk => decrgn_done (c := .ci4) (hci4.mpr hk) (texelAddr_nibble rfl _) fun _ => colorNo_texCi4 s _ _,
    fun hk => ?_, fun hk => ?_⟩
  · exact (refuses_decrgn_iff s .ci8 m q).mpr (mt hci8.mp hk)
  · exact (refuses_decrgn_iff s .ci4 m q).mpr (mt hci4.mp hk)

/-- Settles O32: a decoded texel of an admitted region is admitted as a single pixel, and both decode it from the same
bytes. -/
theorem regionTexelsEqualPixelDecode : Obligations.RegionTexelsEqualPixelDecode := by
  intro c m q q' s t idx hexec hidx hin hq
  obtain ⟨hadm, rfl⟩ := (exec_decrgn_next_iff s t c m q).mp hexec
  refine ⟨_, exec_decpx_atTexel hadm hidx hin hq, ?_⟩
  rw [State.putPixel_color, colorToWord_toNat_eq_colorNo, bmpNo_afterRegion_of_texelIn m ⟨hidx, hin⟩]

/-- Settles O34: the stated conditions are the model's admission, an admission that fails is a refusal, and a region
with no pixel or past the end of the source has no texel in bounds. -/
theorem decrgnAdmission : Obligations.DecrgnAdmission := by
  intro c m q s i admitted
  have hpal : (needsPalette c = true → RegionPalette s (texelAddr c s.offset.toNat) (s.regionIndex c)) ↔
      (c = .ci8 → RegionPalette s (fun idx => s.offset.toNat + idx) fun idx => srcNo s (s.offset.toNat + idx)) ∧
        (c = .ci4 → RegionPalette s (fun idx => s.offset.toNat + idx / 2) fun idx =>
          nibNo (srcNo s (s.offset.toNat + idx / 2)) (idx % 2)) := by
    rw [needsPalette_iff, or_imp]
    refine and_congr (imp_congr_right ?_) (imp_congr_right ?_)
    · rintro rfl
      exact regionPalette_ci8_iff s
    · rintro rfl
      exact regionPalette_ci4_iff s
  have hadm : s.decrgnRefusal c m = none ↔ admitted := by
    rw [decrgn_admitted_iff, hpal, readsMode_iff, ← modeNo_le_two_iff, RegionFits, and_assoc]
  refine ⟨fun h => (exists_next_decrgn_iff s c m q).mpr (hadm.mpr h),
    fun h => (refuses_decrgn_iff s c m q).mpr (mt hadm.mp h), fun h hempty => ?_⟩
  have hnone : ∀ idx, idx < pixelCount s → ¬TexelIn s (bytesNeeded c) (texelAddr c s.offset.toNat idx) := by
    intro idx hidx hin
    obtain hw | hh | hsrc := hempty
    · simp [pixelCount, hw] at hidx
    · simp [pixelCount, hh] at hidx
    · have := le_texelAddr c s.offset.toNat idx
      have := bytesNeeded_pos c
      unfold TexelIn at hin
      omega
  exact (exec_decrgn_next_iff s _ c m q).mpr ⟨hadm.mpr h, (afterRegion_of_none_texelIn m hnone).symm⟩

end Sys2Proof.Proofs
end

section
/-! Proofs about quantization and ENC (43_encode.md R220 to R260): the reductions as numbers, what one pixel and then
all pixels set in OUT, and the state an ENC leaves. -/

namespace Sys2Proof.Machine

open Sys2Proof.Claims

/-! ### Reductions as numbers -/

@[simp] theorem dn5_toNat (v : Byte) : (dn5 v).toNat = dn5No v.toNat := by
  have := v.isLt
  rw [dn5, dn5No, BitVec.toNat_ofNat]
  omega

@[simp] theorem dn4_toNat (v : Byte) : (dn4 v).toNat = v.toNat / 17 := by
  have := v.isLt
  rw [dn4, BitVec.toNat_ofNat]
  omega

@[simp] theorem dn3_toNat (v : Byte) : (dn3 v).toNat = v.toNat / 36 := by
  have := v.isLt
  rw [dn3, BitVec.toNat_ofNat]
  omega

@[simp] theorem toNat_ofBool_bin1 (a : Byte) : (BitVec.ofBool (bin1 a)).toNat = if 0 < a.toNat then 1 else 0 := by
  rw [BitVec.toNat_ofBool, bin1]
  split <;> simp [*]

theorem mean3_toNat (s : State) (t : Nat) : (mean3 (s.readTexel t)).toNat = meanNo s t := by
  have := (s.readTexel t).r.isLt
  have := (s.readTexel t).g.isLt
  have := (s.readTexel t).b.isLt
  rw [mean3, meanNo, BitVec.toNat_ofNat]
  omega

theorem colorToRaw16_toNat (s : State) (t : Nat) : (colorToRaw16 (s.readTexel t)).toNat = rawNo s t := by
  simp only [colorToRaw16, toNat_app, dn5_toNat, toNat_ofBool_bin1, rawNo]
  omega

theorem hiByte_toNat (v : BitVec 16) : (hiByte v).toNat = v.toNat / 256 := by
  have := v.isLt
  rw [hiByte, toNat_extract]
  omega

theorem loByte_toNat (v : BitVec 16) : (loByte v).toNat = v.toNat % 256 := by
  rw [loByte, toNat_extract]
  omega

theorem byte_toNat_eq_nibbles (b : Byte) : b.toNat = (nib b 0).toNat * 16 + (nib b 1).toNat := by
  rw [nib_toNat, nib_toNat]
  simp only [if_true, one_ne_zero, if_false]
  omega

/-- The error -5 belongs to a code: a byte that meets it is the code's own expansion plus 5, and of the 32 codes six
have that byte for their own. -/
theorem up5_dn5_add_five_iff (v : Byte) :
    (up5 (dn5 v)).toNat + 5 = v.toNat ↔ v.toNat ∈ [37, 70, 111, 144, 185, 218] := by
  have hcode : ∀ q < 32, dn5No (up5No q + 5) = q → up5No q + 5 ∈ [37, 70, 111, 144, 185, 218] := by decide
  have hbyte : ∀ b ∈ [37, 70, 111, 144, 185, 218], up5No (dn5No b) + 5 = b := by decide
  have hlt := (dn5 v).isLt
  rw [up5_toNat]
  rw [dn5_toNat] at hlt ⊢
  exact ⟨fun h => by simpa [h] using hcode _ hlt, hbyte _⟩

/-! ### The loop over the pixels -/

/-- The buffers after the first `k` pixels (43_encode.md R240). -/
def State.encodedTo (s : State) (c : Codec) (k : Nat) : EncBuf :=
  ascending k (fun idx e => e.encTexel c idx (s.readTexel idx)) (s.encStart c)

theorem encodedTo_succ (s : State) (c : Codec) (k : Nat) :
    s.encodedTo c (k + 1) = (s.encodedTo c k).encTexel c k (s.readTexel k) := rfl

theorem encodedTo_pixelCount (s : State) (c : Codec) : s.encodedTo c (pixelCount s) = s.encoded c := rfl

/-- If each pixel sets exactly the units of the output that it owns, the encode leaves in a unit what its owner sets
there, and what stood there at the start if its owner is no pixel. -/
theorem view_encoded {β : Type} {s : State} {c : Codec} (view : EncBuf → Nat → β) (owner : Nat → Nat)
    (val : Nat → Nat → β)
    (htexel : ∀ k p, view ((s.encodedTo c k).encTexel c k (s.readTexel k)) p =
      if owner p = k then val k p else view (s.encodedTo c k) p) (p : Nat) :
    view (s.encoded c) p = if owner p < pixelCount s then val (owner p) p else view (s.encStart c) p := by
  rw [← encodedTo_pixelCount]
  induction pixelCount s with
  | zero => rfl
  | succ n ih =>
    rw [encodedTo_succ, htexel, ih]
    by_cases h : owner p = n
    · simp [h]
    · have : owner p < n + 1 ↔ owner p < n := by omega
      simp [h, this]

/-- The fresh output is zero-filled to its length (43_encode.md R241). -/
theorem readOut_encStart {s : State} {c : Codec} {a : Nat} (h : a < p2b c (pixelCount s)) :
    (s.encStart c).readOut a = 0 := Memory.read_fresh _ _ _ _ _ h

/-! ### What one pixel sets in OUT, by packing class -/

/-- The channels of a Color in the order of an RGBA32 texel's bytes (43_encode.md R244). -/
def channel (x : Color) : Nat → Byte
  | 0 => x.r
  | 1 => x.g
  | 2 => x.b
  | _ => x.a

namespace EncBuf

variable (e : EncBuf) (k p : Nat)

theorem readOut_oneByte (v : Byte) : (e.writeOut (0 + k * 1) v).readOut p = if p = k then v else e.readOut p := by
  rw [readOut_writeOut, zero_add, mul_one]

theorem readOut_twoBytes (hi lo : Byte) :
    ((e.writeOut (0 + k * 2) hi).writeOut (0 + k * 2 + 1) lo).readOut p =
      if p / 2 = k then (if p % 2 = 0 then hi else lo) else e.readOut p := by
  have hfirst : p = 0 + k * 2 ↔ p / 2 = k ∧ p % 2 = 0 := by omega
  have hsecond : p = 0 + k * 2 + 1 ↔ p / 2 = k ∧ ¬p % 2 = 0 := by omega
  simp only [readOut_writeOut, hfirst, hsecond]
  by_cases hown : p / 2 = k <;> by_cases hpos : p % 2 = 0 <;> simp [hown, hpos]

theorem readOut_encRgba32 (x : Color) :
    (e.encRgba32 k x).readOut p = if p / 4 = k then channel x (p % 4) else e.readOut p := by
  have hfirst : p = 0 + k * 4 ↔ p / 4 = k ∧ p % 4 = 0 := by omega
  have hlater (j : Nat) (hj : j < 4) : p = 0 + k * 4 + j ↔ p / 4 = k ∧ p % 4 = j := by omega
  simp only [encRgba32, readOut_writeOut, texelAddr, packClass, hfirst, hlater, Nat.reduceLT]
  by_cases hown : p / 4 = k
  · obtain hp | hp | hp | hp : p % 4 = 0 ∨ p % 4 = 1 ∨ p % 4 = 2 ∨ p % 4 = 3 := by omega
    all_goals simp [hown, hp, channel]
  · simp [hown]

theorem nib_putNibbleAt (n : BitVec 4) :
    nib ((e.putNibbleAt k n).readOut (p / 2)) (p % 2) = if p = k then n else nib (e.readOut (p / 2)) (p % 2) := by
  rw [putNibbleAt, readOut_writeOut]
  by_cases hbyte : p / 2 = k / 2
  · have hown : p % 2 = k % 2 ↔ p = k := by omega
    rw [if_pos hbyte, nib_putNibble _ _ _ _ (by omega) (by omega), hbyte]
    simp only [hown]
  · rw [if_neg hbyte, if_neg (mt (congrArg (· / 2)) hbyte)]

theorem bitOf_encOneBpp (x : Color) :
    bitOf ((e.encOneBpp k x).readOut (p / 8)) (p % 8) =
      if p = k then decide (0 < x.r.toNat + x.g.toNat + x.b.toNat) else bitOf (e.readOut (p / 8)) (p % 8) := by
  rw [encOneBpp, readOut_writeOut]
  by_cases hbyte : p / 8 = k / 8
  · have hown : p % 8 = k % 8 ↔ p = k := by omega
    rw [if_pos hbyte, bitOf_putBit _ _ _ _ (by omega) (by omega), hbyte]
    simp only [hown]
  · rw [if_neg hbyte, if_neg (mt (congrArg (· / 8)) hbyte)]

end EncBuf

/-! ### What an encode leaves in OUT, by packing class -/

section OutAfterEncode

variable {s : State} {c : Codec}

theorem readOut_encoded_oneByte {val : Color → Byte}
    (htexel : ∀ e k x, EncBuf.encTexel e c k x = e.writeOut (0 + k * 1) (val x)) {idx : Nat}
    (hidx : idx < pixelCount s) : (s.encoded c).readOut idx = val (s.readTexel idx) := by
  rw [view_encoded EncBuf.readOut id (fun k _ => val (s.readTexel k)) fun k p => by
    rw [htexel, EncBuf.readOut_oneByte]; rfl]
  exact if_pos hidx

theorem readOut_encoded_twoBytes {hi lo : Color → Byte}
    (htexel : ∀ e k x, EncBuf.encTexel e c k x = (e.writeOut (0 + k * 2) (hi x)).writeOut (0 + k * 2 + 1) (lo x))
    {idx : Nat} (hidx : idx < pixelCount s) :
    (s.encoded c).readOut (2 * idx) = hi (s.readTexel idx) ∧
      (s.encoded c).readOut (2 * idx + 1) = lo (s.readTexel idx) := by
  have hview := view_encoded EncBuf.readOut (· / 2)
    (fun k p => if p % 2 = 0 then hi (s.readTexel k) else lo (s.readTexel k)) fun k p => by
      rw [htexel, EncBuf.readOut_twoBytes]
  rw [hview, hview]
  simp [hidx, Nat.mul_add_div]

theorem readOut_encoded_rgba32 {idx j : Nat} (hidx : idx < pixelCount s) (hj : j < 4) :
    (s.encoded .rgba32).readOut (4 * idx + j) = channel (s.readTexel idx) j := by
  have hdiv : (4 * idx + j) / 4 = idx := by omega
  have hmod : (4 * idx + j) % 4 = j := by omega
  have hview := view_encoded (s := s) (c := .rgba32) EncBuf.readOut (· / 4) _ fun k p =>
    EncBuf.readOut_encRgba32 _ k p _
  rw [hview, hdiv, hmod, if_pos hidx]

/-- The nibbles of OUT: those of the pixels, then the 0 that completes an odd count (43_encode.md R226, R241). -/
theorem nib_encoded {val : Nat → BitVec 4} (hclass : packClass c = .nibble)
    (htexel : ∀ k p, nib (((s.encodedTo c k).encTexel c k (s.readTexel k)).readOut (p / 2)) (p % 2) =
      if p = k then val k else nib ((s.encodedTo c k).readOut (p / 2)) (p % 2))
    {p : Nat} (hp : p / 2 < (pixelCount s + 1) / 2) :
    nib ((s.encoded c).readOut (p / 2)) (p % 2) = if p < pixelCount s then val p else 0 := by
  have hview := view_encoded (fun e p => nib (e.readOut (p / 2)) (p % 2)) id (fun k _ => val k) htexel p
  have hzero : (s.encStart c).readOut (p / 2) = 0 := readOut_encStart (by rw [p2b, hclass]; exact hp)
  have hnib : nib 0 (p % 2) = 0 := by unfold nib; split <;> rfl
  rwa [hzero, hnib] at hview

theorem readOut_encoded_nibbles {val : Color → BitVec 4} {g : Nat → Nat} (hclass : packClass c = .nibble)
    (htexel : ∀ e k x, EncBuf.encTexel e c k x = e.putNibbleAt k (val x))
    (hval : ∀ idx, (val (s.readTexel idx)).toNat = g idx) {k : Nat} (hk : k < (pixelCount s + 1) / 2) :
    ((s.encoded c).readOut k).toNat = packedNibbles (pixelCount s) g k := by
  have hnib {p : Nat} (hp : p / 2 < (pixelCount s + 1) / 2) :=
    nib_encoded hclass (fun k p => by rw [htexel, EncBuf.nib_putNibbleAt]) hp
  have hhi := hnib (p := 2 * k) (by omega)
  have hlo := hnib (p := 2 * k + 1) (by omega)
  rw [show 2 * k / 2 = k by omega, show 2 * k % 2 = 0 by omega, if_pos (by omega)] at hhi
  rw [show (2 * k + 1) / 2 = k by omega, show (2 * k + 1) % 2 = 1 by omega] at hlo
  rw [byte_toNat_eq_nibbles, hhi, hlo, packedNibbles, hval, apply_ite BitVec.toNat, hval]
  rfl

/-- The bits of OUT: those of the pixels, then zeros to the end of the last byte (43_encode.md R227, R241). -/
theorem bitOf_encoded_oneBpp {k j : Nat} (hk : k < (pixelCount s + 7) / 8) (hj : j < 8) :
    bitOf ((s.encoded .oneBpp).readOut k) j = true ↔
      8 * k + j < pixelCount s ∧
        0 < (s.readTexel (8 * k + j)).r.toNat + (s.readTexel (8 * k + j)).g.toNat +
          (s.readTexel (8 * k + j)).b.toNat := by
  have hview := view_encoded (s := s) (c := .oneBpp) (fun e p => bitOf (e.readOut (p / 8)) (p % 8)) id _
    (fun k p => EncBuf.bitOf_encOneBpp _ k p _) (8 * k + j)
  have hdiv : (8 * k + j) / 8 = k := by omega
  have hmod : (8 * k + j) % 8 = j := by omega
  have hzero : bitOf ((s.encStart .oneBpp).readOut k) j = false := by rw [readOut_encStart hk]; simp [bitOf]
  simp only [hdiv, hmod, hzero, id] at hview
  rw [hview]
  split <;> simp [*]

end OutAfterEncode

/-! ### The state an encode leaves -/

/-- The state an admitted ENC leaves (43_encode.md R240). -/
def State.afterEnc (s : State) (c : Codec) : State := s.encDone c (s.encoded c)

theorem outNo_afterEnc (s : State) (c : Codec) (a : Nat) :
    outNo (s.afterEnc c) a = ((s.encoded c).readOut a).toNat := rfl

theorem exec_enc_of_fits {s : State} (hfits : BitmapFits s) (c : Codec) (m : ModeField) (q : SelField) :
    exec (Instr.ofParts .enc c m q) s = .next (s.afterEnc c) := by
  rw [exec_enc, enc_next_iff]
  exact ⟨hfits, rfl⟩

theorem runs_enc {s : State} (hfits : BitmapFits s) (c : Codec) (m : ModeField) (q : SelField) :
    Runs (16 * codecNo c + opNo .enc) (Instr.ofParts .enc c m q) s (s.afterEnc c) :=
  runs_ofParts (wf_ofParts_of_ignores rfl (by decide) m q) (exec_enc_of_fits hfits c m q)

theorem encFrame_afterEnc (s : State) (c : Codec) :
    EncFrame s (s.afterEnc c) (p2b c (pixelCount s)) (2 * palCapOf c) :=
  ⟨rfl, outLen_toNat s c, opalLen_toNat c⟩

theorem exhCnt_afterEnc_toNat (s : State) (c : Codec) : (s.afterEnc c).exhCnt.toNat = (s.encoded c).exhCnt :=
  exhCnt_toNat s c

theorem status_afterEnc (s : State) (c : Codec) :
    (s.afterEnc c).status = if 0 < (s.afterEnc c).exhCnt.toNat then 4 else 0 := by
  rw [exhCnt_afterEnc_toNat]; rfl

/-- Without a palette there is nothing to count (43_encode.md R233). -/
theorem counts_afterEnc_of_plain (s : State) {c : Codec} (hc : palCapOf c = 0) :
    (s.afterEnc c).pCount = 0 ∧ (s.afterEnc c).exhCnt = 0 := by
  obtain ⟨hp, he, -⟩ := encoded_plain s hc
  simp [State.afterEnc, hp, he]

theorem encPlain_afterEnc (s : State) {c : Codec} (hc : palCapOf c = 0) :
    EncPlain s (s.afterEnc c) (p2b c (pixelCount s)) := by
  obtain ⟨hp, he⟩ := counts_afterEnc_of_plain s hc
  have hframe := encFrame_afterEnc s c
  rw [hc] at hframe
  exact ⟨hframe, hp, he, by rw [status_afterEnc, he]; rfl⟩

theorem palCapOf_eq_zero_iff (c : Codec) : palCapOf c = 0 ↔ indexed c = false := by cases c <;> decide

/-- Only an ENC can leave another STATUS than 0 (30_encoding.md R96 step 4). -/
theorem exec_next_status {i : Instr} {s t : State} (h : exec i s = .next t) :
    (i.op ≠ .enc ∧ t.status = 0) ∨ (i.op = .enc ∧ t = s.afterEnc i.codec) := by
  obtain ⟨hop, rfl⟩ | ⟨hop, rfl⟩ | ⟨hop, -, rfl⟩ | ⟨hop, -, rfl⟩ | ⟨hop, -, rfl⟩ := exec_next h
  · exact .inl ⟨by simp [hop], rfl⟩
  · exact .inl ⟨by simp [hop], rfl⟩
  · exact .inl ⟨by simp [hop], rfl⟩
  · exact .inl ⟨by simp [hop], rfl⟩
  · exact .inr ⟨hop, rfl⟩

end Sys2Proof.Machine

namespace Sys2Proof.Proofs

open Sys2Proof.Machine Sys2Proof.Claims

/-- Settles O35: each law is arithmetic on the code's or the byte's number; the bytes of error -5 are found by code. -/
theorem quantizationLaws : Obligations.QuantizationLaws := by
  refine ⟨fun q => ?_, fun q => ?_, fun q => ?_, fun v => ?_, fun v => ?_, fun v => ?_⟩
  · apply BitVec.eq_of_toNat_eq
    rw [dn5_toNat, up5_toNat, dn5No, up5No]
    omega
  · apply BitVec.eq_of_toNat_eq
    rw [dn4_toNat, up4_toNat]
    omega
  · apply BitVec.eq_of_toNat_eq
    rw [dn3_toNat, up3_toNat]
    omega
  · have hbounds : v.toNat ≤ (up5 (dn5 v)).toNat + 5 ∧ (up5 (dn5 v)).toNat ≤ v.toNat + 4 := by
      rw [up5_toNat, dn5_toNat, up5No, dn5No]
      omega
    exact ⟨hbounds.1, hbounds.2, up5_dn5_add_five_iff v⟩
  · rw [up4_toNat, dn4_toNat]
    omega
  · have := v.isLt
    rw [up3_toNat, dn3_toNat]
    omega

/-- Settles O36: each row is ENC of its codec, whose pixel sets its own two or four bytes. -/
theorem encMultiByteTexels : Obligations.EncMultiByteTexels := by
  intro m q s hfits
  refine ⟨⟨_, runs_enc hfits .rgba16 m q, encPlain_afterEnc s rfl, fun idx hidx => ?_⟩,
    ⟨_, runs_enc hfits .rgba32 m q, encPlain_afterEnc s rfl, fun idx hidx => ?_⟩,
    ⟨_, runs_enc hfits .ia16 m q, encPlain_afterEnc s rfl, fun idx hidx => ?_⟩⟩
  · obtain ⟨hhi, hlo⟩ := readOut_encoded_twoBytes (c := .rgba16) (fun _ _ _ => rfl) hidx
    rw [outNo_afterEnc, outNo_afterEnc, hhi, hlo, hiByte_toNat, loByte_toNat, colorToRaw16_toNat]
    exact ⟨rfl, rfl⟩
  · have hbyte {j : Nat} (hj : j < 4) := readOut_encoded_rgba32 (s := s) hidx hj
    exact ⟨hbyte (j := 0) (by decide), hbyte (j := 1) (by decide), hbyte (j := 2) (by decide),
      hbyte (j := 3) (by decide)⟩
  · obtain ⟨hhi, hlo⟩ := readOut_encoded_twoBytes (c := .ia16) (fun _ _ _ => rfl) hidx
    rw [outNo_afterEnc, outNo_afterEnc, hhi, hlo, mean3_toNat]
    exact ⟨rfl, rfl⟩

/-- Settles O37: each row is ENC of its codec, whose pixel sets its own byte. -/
theorem encOneByteTexels : Obligations.EncOneByteTexels := by
  intro m q s hfits
  refine ⟨⟨_, runs_enc hfits .ia8 m q, encPlain_afterEnc s rfl, fun idx hidx => ?_⟩,
    ⟨_, runs_enc hfits .i8 m q, encPlain_afterEnc s rfl, fun idx hidx => ?_⟩⟩
  · rw [outNo_afterEnc, readOut_encoded_oneByte (c := .ia8) (fun _ _ _ => rfl) hidx, toNat_app, dn4_toNat, dn4_toNat,
      mean3_toNat]
    rfl
  · rw [outNo_afterEnc, readOut_encoded_oneByte (c := .i8) (fun _ _ _ => rfl) hidx, mean3_toNat]

/-- Settles O38: each row is ENC of its codec, whose pixel sets its own nibble of a byte that starts as 0. -/
theorem encNibbleTexels : Obligations.EncNibbleTexels := by
  intro m q s hfits
  refine ⟨⟨_, runs_enc hfits .ia4 m q, encPlain_afterEnc s rfl, fun k hk => ?_⟩,
    ⟨_, runs_enc hfits .i4 m q, encPlain_afterEnc s rfl, fun k hk => ?_⟩⟩
  · refine readOut_encoded_nibbles (c := .ia4) rfl (fun _ _ _ => rfl) (fun idx => ?_) hk
    rw [toNat_app, dn3_toNat, mean3_toNat, toNat_ofBool_bin1]
    rfl
  · refine readOut_encoded_nibbles (c := .i4) rfl (fun _ _ _ => rfl) (fun idx => ?_) hk
    rw [dn4_toNat, mean3_toNat]

/-- Settles O39: a pixel sets its own bit of a byte that starts as 0. -/
theorem encOneBppTexels : Obligations.EncOneBppTexels := by
  intro m q s hfits
  refine ⟨_, runs_enc hfits .oneBpp m q, encPlain_afterEnc s rfl, fun k j hk hj => ?_⟩
  rw [← bitOf_encoded_oneBpp hk hj, ← bitNo, outNo_afterEnc, ← bitOf_toNat, Bool.toNat_eq_one]

/-- Settles O51: STATUS after an ENC is read off EXHCNT, which stays 0 without a palette, and an ENC asks only that the
bitmap fits. -/
theorem statusAfterEveryCommand : Obligations.StatusAfterEveryCommand := by
  refine ⟨fun i s t h => ?_, fun i s hop hfits => ?_⟩
  · obtain ⟨hop, hstatus⟩ | ⟨hop, rfl⟩ := exec_next_status h
    · simp [hop, hstatus]
    · have hplain : indexed i.codec = false → (s.afterEnc i.codec).exhCnt = 0 := fun hidx =>
        (counts_afterEnc_of_plain s ((palCapOf_eq_zero_iff _).mpr hidx)).2
      refine ⟨?_, fun _ => hplain⟩
      rw [status_afterEnc]
      cases hidx : indexed i.codec with
      | false => simp [hplain hidx]
      | true => simp [hop]
  · rw [← ofParts_self i, hop]
    exact ⟨_, exec_enc_of_fits hfits _ _ _⟩

end Sys2Proof.Proofs
end

section
/-! Proofs about the palette of CI8 and CI4 (43_encode.md R230 to R235, R250, R251): the list of first appearances, the
table builder that follows it, and the indices. -/

namespace Sys2Proof.Machine

open Sys2Proof.Claims

/-! ### The palette as a list of first appearances -/

section Appearances

/-- The palette of capacity `cap` after the first `k` values (43_encode.md R235). -/
def paletteAfter (raw : Nat → Nat) (cap k : Nat) : List Nat := (appearances raw k).take cap

/-- How many of the first `k` values that palette lacks (43_encode.md R235). -/
def exhaustedAfter (raw : Nat → Nat) (cap k : Nat) : Nat :=
  ((List.range k).filter fun i => !(paletteAfter raw cap k).contains (raw i)).length

variable {raw : Nat → Nat} {cap i k n : Nat}

theorem length_paletteAfter_le : (paletteAfter raw cap k).length ≤ cap := List.length_take_le _ _

theorem mem_appearances (h : i < k) : raw i ∈ appearances raw k := by
  induction k with
  | zero => omega
  | succ k ih =>
    rw [appearances]
    obtain h | rfl := Nat.lt_succ_iff_lt_or_eq.mp h
    · split
      · exact ih h
      · exact List.mem_append_left _ (ih h)
    · split
      · assumption
      · simp

theorem appearances_prefix_succ : appearances raw k <+: appearances raw (k + 1) := by
  rw [appearances]
  split
  · exact List.prefix_rfl
  · exact List.prefix_append _ _

/-- While there is room the palette is the whole list. -/
theorem paletteAfter_of_room (hroom : (paletteAfter raw cap k).length < cap) :
    paletteAfter raw cap k = appearances raw k := by
  rw [paletteAfter, List.length_take] at hroom
  exact List.take_of_length_le (by omega)

theorem paletteAfter_prefix (h : k ≤ n) : paletteAfter raw cap k <+: paletteAfter raw cap n := by
  induction n, h using Nat.le_induction with
  | base => exact List.prefix_rfl
  | succ n _ ih => exact ih.trans (appearances_prefix_succ.take cap)

theorem paletteAfter_of_full (hfull : cap ≤ (paletteAfter raw cap k).length) (h : k ≤ n) :
    paletteAfter raw cap n = paletteAfter raw cap k :=
  ((paletteAfter_prefix h).eq_of_length_le (length_paletteAfter_le.trans hfull)).symm

theorem paletteAfter_succ_of_mem (h : raw k ∈ paletteAfter raw cap k) :
    paletteAfter raw cap (k + 1) = paletteAfter raw cap k := by
  rw [paletteAfter, appearances, if_pos (List.mem_of_mem_take h), paletteAfter]

theorem paletteAfter_succ_of_room (h : raw k ∉ paletteAfter raw cap k) (hroom : (paletteAfter raw cap k).length < cap) :
    paletteAfter raw cap (k + 1) = paletteAfter raw cap k ++ [raw k] := by
  have hall := paletteAfter_of_room hroom
  rw [hall] at h hroom ⊢
  rw [paletteAfter, appearances, if_neg h]
  exact List.take_of_length_le (by simpa using hroom)

/-- A value's chance to enter the palette is its own pixel: later pixels do not change whether it is there. -/
theorem mem_paletteAfter_iff (hi : i < k) (hk : k ≤ n) :
    raw i ∈ paletteAfter raw cap n ↔ raw i ∈ paletteAfter raw cap k := by
  by_cases hroom : (paletteAfter raw cap k).length < cap
  · have hmem : raw i ∈ paletteAfter raw cap k := by
      rw [paletteAfter_of_room hroom]
      exact mem_appearances hi
    exact iff_of_true ((paletteAfter_prefix hk).subset hmem) hmem
  · rw [paletteAfter_of_full (by omega) hk]

theorem exhaustedAfter_succ :
    exhaustedAfter raw cap (k + 1) =
      exhaustedAfter raw cap k + if raw k ∈ paletteAfter raw cap (k + 1) then 0 else 1 := by
  have hearlier : ((List.range k).filter fun i => !(paletteAfter raw cap (k + 1)).contains (raw i)) =
      (List.range k).filter fun i => !(paletteAfter raw cap k).contains (raw i) :=
    List.filter_congr fun i hi => by
      simp [mem_paletteAfter_iff (List.mem_range.mp hi) (Nat.le_succ k)]
  rw [exhaustedAfter, List.range_succ, List.filter_append, hearlier, List.length_append, exhaustedAfter]
  by_cases h : raw k ∈ paletteAfter raw cap (k + 1) <;> simp [h]

end Appearances

/-! ### The table builder -/

/-- OPAL and the counts hold the palette of the first `k` values: the entries in use are its values in order, the rest
is zero, and the exhausted pixels are those whose value it lacks (43_encode.md R231 to R235). -/
structure PaletteBuilt (raw : Nat → Nat) (cap k : Nat) (e : EncBuf) : Prop where
  entries : (List.range e.pCount).map (fun j => (e.entry j).toNat) = paletteAfter raw cap k
  unused : ∀ a, 2 * e.pCount ≤ a → a < 2 * cap → e.readOpal a = 0
  missed : e.exhCnt = exhaustedAfter raw cap k

/-- The palette with `v` behind the entries in use (43_encode.md R231). -/
def EncBuf.appendEntry (e : EncBuf) (v : BitVec 16) : EncBuf :=
  { (e.writeOpal (2 * e.pCount) (hiByte v)).writeOpal (2 * e.pCount + 1) (loByte v) with pCount := e.pCount + 1 }

@[simp] theorem EncBuf.pCount_appendEntry (e : EncBuf) (v : BitVec 16) :
    (e.appendEntry v).pCount = e.pCount + 1 := rfl

theorem EncBuf.readOpal_appendEntry (e : EncBuf) (v : BitVec 16) (a : Nat) :
    (e.appendEntry v).readOpal a =
      if a = 2 * e.pCount + 1 then loByte v else if a = 2 * e.pCount then hiByte v else e.readOpal a :=
  (EncBuf.readOpal_writeOpal ..).trans (by rw [EncBuf.readOpal_writeOpal])

theorem EncBuf.entry_appendEntry (e : EncBuf) (v : BitVec 16) (j : Nat) :
    (e.appendEntry v).entry j = if j = e.pCount then v else e.entry j := by
  simp only [entry, readOpal_appendEntry]
  by_cases h : j = e.pCount
  · simp [h, hiByte_append_loByte]
  · rw [if_neg (by omega), if_neg (by omega), if_neg (by omega), if_neg (by omega), if_neg h]

section PaletteBuilt

variable {raw : Nat → Nat} {cap k : Nat} {e : EncBuf}

theorem PaletteBuilt.length (h : PaletteBuilt raw cap k e) : (paletteAfter raw cap k).length = e.pCount := by
  rw [← h.entries, List.length_map, List.length_range]

theorem PaletteBuilt.getElem? (h : PaletteBuilt raw cap k e) {j : Nat} (hj : j < e.pCount) :
    (paletteAfter raw cap k)[j]? = some (e.entry j).toNat := by
  rw [← h.entries]
  simp [hj]

theorem PaletteBuilt.writeOut (h : PaletteBuilt raw cap k e) (a : Nat) (v : Byte) :
    PaletteBuilt raw cap k (e.writeOut a v) := ⟨h.entries, h.unused, h.missed⟩

theorem PaletteBuilt.notMem {v : BitVec 16} (h : PaletteBuilt raw cap k e) (hnew : ∀ j, j < e.pCount → e.entry j ≠ v) :
    v.toNat ∉ paletteAfter raw cap k := by
  rw [← h.entries]
  intro hmem
  obtain ⟨j, hj, heq⟩ := List.mem_map.mp hmem
  exact hnew j (List.mem_range.mp hj) (BitVec.eq_of_toNat_eq heq)

/-- A new value is appended while there is room (43_encode.md R231). -/
theorem PaletteBuilt.appendEntry {v : BitVec 16} (h : PaletteBuilt raw cap k e) (hv : v.toNat = raw k)
    (hnew : ∀ j, j < e.pCount → e.entry j ≠ v) (hroom : e.pCount < cap) :
    PaletteBuilt raw cap (k + 1) (e.appendEntry v) := by
  have hlong := paletteAfter_succ_of_room (hv ▸ h.notMem hnew) (h.length ▸ hroom)
  refine ⟨?_, fun a hlo hhi => ?_, ?_⟩
  · have hearlier : (List.range e.pCount).map (fun j => ((e.appendEntry v).entry j).toNat) = paletteAfter raw cap k := by
      rw [← h.entries]
      refine List.map_congr_left fun j hj => ?_
      rw [EncBuf.entry_appendEntry, if_neg (List.mem_range.mp hj).ne]
    rw [EncBuf.pCount_appendEntry, List.range_succ, List.map_append, hearlier, List.map_singleton,
      EncBuf.entry_appendEntry, if_pos rfl, hv, hlong]
  · rw [EncBuf.pCount_appendEntry] at hlo
    rw [EncBuf.readOpal_appendEntry, if_neg (by omega), if_neg (by omega), h.unused a (by omega) hhi]
  · rw [exhaustedAfter_succ, if_pos (by simp [hlong])]
    exact h.missed

/-- What a lookup-or-append of the next value does to the palette, and the index it returns (43_encode.md R231,
R232). -/
theorem PaletteBuilt.palAssign {v : BitVec 16} (h : PaletteBuilt raw cap k e) (hv : v.toNat = raw k) :
    PaletteBuilt raw cap (k + 1) (e.palAssign v cap) ∧
      (raw k ∈ paletteAfter raw cap (k + 1) →
        (paletteAfter raw cap (k + 1))[e.palIndex v cap]? = some (raw k)) ∧
      (raw k ∉ paletteAfter raw cap (k + 1) → e.palIndex v cap = 0) := by
  obtain ⟨j, hj, hentry, hindex, hassign⟩ | ⟨hnew, hroom, hindex, hassign⟩ | ⟨hnew, hfull, hindex, hassign⟩ :=
    e.palAssign_cases v cap
  · have hat : (paletteAfter raw cap k)[j]? = some (raw k) := by rw [h.getElem? hj, hentry, hv]
    have hmem := List.mem_of_getElem? hat
    have hsame := paletteAfter_succ_of_mem hmem
    rw [hassign, hindex, hsame]
    refine ⟨⟨hsame ▸ h.entries, h.unused, ?_⟩, fun _ => hat, fun hlack => absurd hmem hlack⟩
    rw [exhaustedAfter_succ, hsame, if_pos hmem, h.missed, Nat.add_zero]
  · have hlong := paletteAfter_succ_of_room (hv ▸ h.notMem hnew) (h.length ▸ hroom)
    rw [hassign, hindex]
    refine ⟨h.appendEntry hv hnew hroom, fun _ => ?_, fun hlack => absurd (by simp [hlong]) hlack⟩
    rw [hlong, ← h.length, List.getElem?_concat_length]
  · have hsame := paletteAfter_of_full (h.length ▸ hfull) (Nat.le_succ k)
    have hlack := hv ▸ h.notMem hnew
    rw [hassign, hindex, hsame]
    refine ⟨⟨hsame ▸ h.entries, h.unused, ?_⟩, fun hmem => absurd hmem hlack, fun _ => rfl⟩
    rw [exhaustedAfter_succ, hsame, if_neg hlack, ← h.missed]

end PaletteBuilt

theorem EncBuf.palIndex_lt {e : EncBuf} {cap : Nat} (hcap : 0 < cap) (hroom : e.pCount ≤ cap) (v : BitVec 16) :
    e.palIndex v cap < cap := by
  obtain ⟨j, hj, -, hindex, -⟩ | ⟨-, hlt, hindex, -⟩ | ⟨-, -, hindex, -⟩ := e.palAssign_cases v cap <;> omega

/-! ### The encode of an indexed codec -/

theorem paletteBuilt_encStart (s : State) (c : Codec) : PaletteBuilt (rawNo s) (palCapOf c) 0 (s.encStart c) :=
  ⟨by simp [State.encStart, paletteAfter, appearances], fun _ _ ha => Memory.read_fresh _ _ _ _ _ ha, rfl⟩

/-- A pixel of an indexed codec does to the palette what its lookup-or-append does. -/
theorem PaletteBuilt.encTexel {s : State} {c : Codec} {k : Nat} {e : EncBuf} (hc : indexed c = true)
    (h : PaletteBuilt (rawNo s) (palCapOf c) k e) :
    PaletteBuilt (rawNo s) (palCapOf c) (k + 1) (e.encTexel c k (s.readTexel k)) := by
  have hassign := (h.palAssign (colorToRaw16_toNat s k)).1
  cases c with
  | ci8 => exact hassign.writeOut _ _
  | ci4 => exact hassign.writeOut _ _
  | _ => exact absurd hc (by decide)

theorem paletteBuilt_encodedTo (s : State) {c : Codec} (hc : indexed c = true) (k : Nat) :
    PaletteBuilt (rawNo s) (palCapOf c) k (s.encodedTo c k) := by
  induction k with
  | zero => exact paletteBuilt_encStart s c
  | succ k ih => exact ih.encTexel hc

theorem paletteDone_afterEnc (s : State) {c : Codec} (hc : indexed c = true) :
    PaletteDone s (s.afterEnc c) (palCapOf c) := by
  have h : PaletteBuilt _ _ _ (s.encoded c) := paletteBuilt_encodedTo s hc (pixelCount s)
  have hlen : (paletteOf s (palCapOf c)).length = (s.encoded c).pCount := h.length
  have hmissed : (s.afterEnc c).exhCnt.toNat = exhausted s (palCapOf c) :=
    (exhCnt_afterEnc_toNat s c).trans h.missed
  refine ⟨(pCount_toNat s c).trans hlen.symm, fun j v hv => ?_, fun a hlo hhi => ?_, hmissed,
    by rw [status_afterEnc, hmissed]⟩
  · have hj : j < (s.encoded c).pCount := hlen ▸ (List.getElem?_eq_some_iff.mp hv).1
    have hentry : ((s.encoded c).entry j).toNat = v := Option.some.inj ((h.getElem? hj).symm.trans hv)
    rw [← hentry, EncBuf.entry, toNat_app]
    rfl
  · exact congrArg BitVec.toNat (h.unused a (hlen ▸ hlo) hhi)

/-- The index a pixel is given is right for the finished palette (43_encode.md R235). -/
theorem indexFor_palIndex {s : State} {c : Codec} (hc : indexed c = true) {idx : Nat} (hidx : idx < pixelCount s) :
    IndexFor s (palCapOf c) idx ((s.encodedTo c idx).palIndex (colorToRaw16 (s.readTexel idx)) (palCapOf c)) := by
  obtain ⟨-, hin, hout⟩ := (paletteBuilt_encodedTo s hc idx).palAssign (colorToRaw16_toNat s idx)
  have hmem : rawNo s idx ∈ paletteOf s (palCapOf c) ↔ rawNo s idx ∈ paletteAfter (rawNo s) (palCapOf c) (idx + 1) :=
    mem_paletteAfter_iff (Nat.lt_succ_self idx) hidx
  refine ⟨fun h => ?_, fun h => hout (mt hmem.mpr h)⟩
  have hat := hin (hmem.mp h)
  obtain ⟨later, hlater⟩ : _ <+: paletteOf s (palCapOf c) := paletteAfter_prefix hidx
  rw [← hlater, List.getElem?_append_left (List.getElem?_eq_some_iff.mp hat).1, hat]

theorem palIndex_ci4_toNat (s : State) (idx : Nat) (v : BitVec 16) :
    (BitVec.ofNat 4 ((s.encodedTo .ci4 idx).palIndex v 16)).toNat = (s.encodedTo .ci4 idx).palIndex v 16 := by
  have hbuilt : PaletteBuilt _ 16 _ _ := paletteBuilt_encodedTo s (c := .ci4) rfl idx
  rw [BitVec.toNat_ofNat]
  exact Nat.mod_eq_of_lt (EncBuf.palIndex_lt (by decide) (hbuilt.length ▸ length_paletteAfter_le) v)

/-- The nibbles of a CI4 encode: the pixels' indices, then the 0 that completes an odd count (43_encode.md R251). -/
theorem nib_encoded_ci4 {s : State} {p : Nat} (hp : p / 2 < (pixelCount s + 1) / 2) :
    nib ((s.encoded .ci4).readOut (p / 2)) (p % 2) =
      if p < pixelCount s then BitVec.ofNat 4 ((s.encodedTo .ci4 p).palIndex (colorToRaw16 (s.readTexel p)) 16)
      else 0 := by
  refine nib_encoded (c := .ci4)
    (val := fun k => BitVec.ofNat 4 ((s.encodedTo .ci4 k).palIndex (colorToRaw16 (s.readTexel k)) 16)) rfl
    (fun k p => ?_) hp
  rw [EncBuf.encTexel, EncBuf.encCi4, EncBuf.nib_putNibbleAt, EncBuf.readOut, EncBuf.palAssign_out]
  rfl

end Sys2Proof.Machine

namespace Sys2Proof.Proofs

open Sys2Proof.Machine Sys2Proof.Claims

/-- Settles O41: the table builder follows the list of first appearances, and each pixel's nibble is the index it was
given. -/
theorem encCi4BuildsPalette : Obligations.EncCi4BuildsPalette := by
  intro m q s hfits
  refine ⟨_, runs_enc hfits .ci4 m q, encFrame_afterEnc s .ci4, paletteDone_afterEnc s rfl, fun idx hidx => ?_,
    fun hodd => ?_⟩
  · rw [outNo_afterEnc, ← nib_toNat_eq_nibNo, nib_encoded_ci4 (by omega), if_pos hidx, palIndex_ci4_toNat]
    exact indexFor_palIndex (c := .ci4) rfl hidx
  · have hlast := nib_encoded_ci4 (s := s) (p := pixelCount s) (by omega)
    rw [hodd, if_neg (lt_irrefl _)] at hlast
    rw [outNo_afterEnc]
    simpa [nib_toNat] using congrArg BitVec.toNat hlast

end Sys2Proof.Proofs
end

section
/-! Proofs about whole command words (30_encoding.md R90, R97, R102): decode and encode are inverse to each other on the
well-formed instructions. -/

namespace Sys2Proof.Proofs

open Sys2Proof.Machine Sys2Proof.Claims

/-- Settles O1: the decoder checks the encoded instruction itself, and a well-formed one passes. -/
theorem decodeInvertsEncode : Obligations.DecodeInvertsEncode := by
  intro i hwf
  rw [decode_encode, checkDefect_wf hwf]

/-- Settles O2: of the decoder's four kinds of words only the word of a row gives an instruction, and the row's
instruction has that word. -/
theorem decodedWordsReencode : Obligations.DecodedWordsReencode := by
  intro w i h
  obtain ⟨-, hd⟩ | ⟨-, hd⟩ | ⟨-, -, -, -, hd⟩ | ⟨op, c, m, q, rfl⟩ := decode_cases_toNat w
  · simp [hd] at h
  · simp [hd] at h
  · simp [hd] at h
  · rw [decode_cmdWord] at h
    obtain ⟨hwf, rfl⟩ := checkDefect_instr h
    exact ⟨hwf, encode_ofParts op c m q⟩

/-- Settles O7: each word is its row's low byte with the MODE and SEL of the instruction. -/
theorem workedWordsDecode : Obligations.WorkedWordsDecode :=
  ⟨rfl, rfl, rfl, rfl, rfl, rfl, rfl⟩

end Sys2Proof.Proofs
end

section
/-! Proofs about the host's port and the other steps (10_state.md R21 to R39, 20_memory.md R72, 70_reset_and_hazards.md
R310): what each access of the host does, by the access at the head of its list. -/

namespace Sys2Proof.Machine

open Sys2Proof.Claims

/-! ### One step -/

theorem step_of_host {s : State} {op : HostOp} {rest : List HostOp} (h : s.host = op :: rest) :
    step s = hostAccess op (s.dropHost rest) := by rw [step, h]

theorem withinCap_of_lt {a cap : Nat} (h : a < cap) (t : State) : withinCap a cap t = .next t := if_pos h

theorem withinCap_of_le {a cap : Nat} (h : cap ≤ a) (t : State) : withinCap a cap t = .refused .hostAddress :=
  if_neg (Nat.not_lt.mpr h)

/-! ### Registers -/

/-- A write of a register reaches the six operand registers only (10_state.md R21). -/
theorem writeReg_frame (s : State) (n : Nat) (v : Word) :
    s.writeReg n v =
      { s with offset := (s.writeReg n v).offset, width := (s.writeReg n v).width, height := (s.writeReg n v).height,
               pixCount := (s.writeReg n v).pixCount, srcLen := (s.writeReg n v).srcLen,
               palLen := (s.writeReg n v).palLen } := by
  unfold State.writeReg
  split <;> rfl

theorem readReg_doReset (s : State) (n : Nat) : s.doReset.readReg n = 0 := State.readReg_reset n

theorem byteMem_doReset (s : State) (sp : ByteSpace) : s.doReset.byteMem sp = (s.byteMem sp).redraw := by
  cases sp <;> rfl

/-! ### Memories -/

/-- A write of a byte reaches SRC and PAL only (20_memory.md R72). -/
theorem writeByte_frame (s : State) (sp : ByteSpace) (a : Nat) (v : Byte) :
    s.writeByte sp a v = { s with src := (s.writeByte sp a v).src, pal := (s.writeByte sp a v).pal } := by
  cases sp <;> rfl

theorem byteMem_writeByte (s : State) (sp sp' : ByteSpace) (a : Nat) (v : Byte) :
    (s.writeByte sp a v).byteMem sp' =
      if sp' = sp ∧ (sp = .src ∨ sp = .pal) then (s.byteMem sp').write a v else s.byteMem sp' := by
  cases sp <;> cases sp' <;> rfl

/-- Read after write of a byte, in any two spaces (20_memory.md R71, R72). -/
theorem readByte_writeByte (s : State) (sp sp' : ByteSpace) (a a' : Nat) (v : Byte) :
    (s.writeByte sp a v).readByte sp' a' =
      if sp' = sp ∧ a' = a ∧ (sp = .src ∨ sp = .pal) then v else s.readByte sp' a' := by
  rw [State.readByte, byteMem_writeByte]
  by_cases hwritten : sp' = sp ∧ (sp = .src ∨ sp = .pal)
  · rw [if_pos hwritten, Memory.read_write]
    simp [hwritten, State.readByte]
  · rw [if_neg hwritten, if_neg fun h => hwritten ⟨h.1, h.2.2⟩, State.readByte]

theorem readTexel_writeTexel (s : State) (a a' : Nat) (v : Word) :
    (s.writeTexel a v).readTexel a' = if a' = a then colorOfWord v else s.readTexel a' :=
  Memory.read_write _ _ _ _ _

theorem bmpNo_eq_colorNo (s : State) (a : Nat) : bmpNo s a = colorNo (s.readTexel a) := rfl

/-- The Color of a word is packed as that word (10_state.md R46). -/
theorem colorNo_colorOfWord (w : Word) : colorNo (colorOfWord w) = w.toNat := by
  have := w.isLt
  simp only [colorNo, colorOfWord, argb, toNat_extract]
  omega

end Sys2Proof.Machine

namespace Sys2Proof.Proofs

open Sys2Proof.Machine Sys2Proof.Claims

/-- Settles O8: a write of register 0 issues the word, and what the word decodes to decides the outcome. -/
theorem stepRunsDecodedInstruction : Obligations.StepRunsDecodedInstruction := by
  intro s w rest h
  have hstep : step s = issue w (s.dropHost rest) := step_of_host h
  rw [hstep]
  refine ⟨rfl, fun i hi => ?_, fun hi => issue_of_invalidCodec hi _, fun r hr => issue_of_reserved hr _⟩
  rw [issue, hi]
  rfl

/-- Settles O9: the idle step is the first case of `step`. -/
theorem idleStepChangesNothing : Obligations.IdleStepChangesNothing := by
  intro s h
  rw [step, h]

/-- Settles O11: the registers are those of the reset state, and a redrawn memory lists no location. -/
theorem resetEventClearsEngine : Obligations.ResetEventClearsEngine := by
  intro s rest h
  refine ⟨(s.dropHost rest).doReset, step_of_host h, readReg_doReset _, fun sp a => ?_, fun a => ?_, rfl, rfl⟩
  · rw [byteMem_doReset, Memory.written_redraw]
  · rw [State.doReset_bmp, Memory.written_redraw]

/-- Settles O12: a register with fewer than 32 bits is zero-extended, which keeps its number. -/
theorem registerReadsReturnState : Obligations.RegisterReadsReturnState := by
  intro s n rest h
  refine ⟨_, step_of_host h, rfl, ?_⟩
  rw [State.answer_hostData]
  unfold State.readReg
  split
  case h_15 => simp_all
  all_goals simp [-BitVec.toNat_setWidth, BitVec.toNat_setWidth_of_le]

/-- Settles O13: the number of the written register picks the field that changes. -/
theorem registerWritesKeepWidths : Obligations.RegisterWritesKeepWidths := by
  intro s n v rest hn h
  have hstep : step s = .next ((s.dropHost rest).writeReg n v) := by
    rw [step_of_host h, hostAccess, if_neg hn]
  refine ⟨_, hstep, writeReg_frame _ n v, ?_⟩
  unfold State.writeReg
  split
  case h_7 => simp_all
  all_goals simp [BitVec.toNat_setWidth]

/-- Settles O14: the access writes its byte in SRC or PAL and every other byte reads as before. -/
theorem hostByteWrites : Obligations.HostByteWrites := by
  intro s sp a v rest h ha
  have hcap : a < (s.dropHost rest).byteCap sp := by cases sp <;> exact ha
  exact ⟨_, (step_of_host h).trans (withinCap_of_lt hcap _), writeByte_frame _ sp a v,
    fun sp' a' => readByte_writeByte (s.dropHost rest) sp sp' a a' v⟩

/-- Settles O15: the texel holds the Color of the word, which the word packs. -/
theorem hostTexelWrites : Obligations.HostTexelWrites := by
  intro s a v rest h ha
  refine ⟨(s.dropHost rest).writeTexel a v, (step_of_host h).trans (withinCap_of_lt ha _), rfl, ?_, fun a' hne => ?_⟩
  · rw [bmpNo_eq_colorNo, readTexel_writeTexel, if_pos rfl, colorNo_colorOfWord]
  · rw [readTexel_writeTexel, if_neg hne]
    rfl

/-- Settles O16: the access hands the byte, zero-extended, or the packed Color to the host. -/
theorem hostReadsReturnMemory : Obligations.HostReadsReturnMemory := by
  refine ⟨fun s sp a rest h ha => ?_, fun s a rest h ha => ?_⟩
  · have hcap : a < (s.dropHost rest).byteCap sp := by cases sp <;> exact ha
    have hread : (s.dropHost rest).readByte sp a = s.readByte sp a := by cases sp <;> rfl
    refine ⟨_, (step_of_host h).trans (withinCap_of_lt hcap _), rfl, ?_⟩
    rw [State.answer_hostData, hread, BitVec.toNat_setWidth_of_le (by decide)]
  · refine ⟨_, (step_of_host h).trans (withinCap_of_lt ha _), rfl, ?_⟩
    rw [State.answer_hostData, colorToWord_toNat_eq_colorNo]
    rfl

/-- Settles O17: each space's capacity is the stated one, and an access at or above it is refused. -/
theorem hostAccessBeyondCapacityRefused : Obligations.HostAccessBeyondCapacityRefused := by
  intro s a v w rest
  refine ⟨fun sp cap hcap hle => ?_, fun hle => ⟨withinCap_of_le hle _, withinCap_of_le hle _⟩⟩
  have hbyteCap : s.byteCap sp = cap := by
    simp only [List.mem_cons, Prod.mk.injEq, List.not_mem_nil, or_false] at hcap
    obtain ⟨rfl, rfl⟩ | ⟨rfl, rfl⟩ | ⟨rfl, rfl⟩ | ⟨rfl, rfl⟩ := hcap <;> rfl
  have hbeyond : State.byteCap { s with host := rest } sp ≤ a := by
    have hsame : State.byteCap { s with host := rest } sp = s.byteCap sp := by cases sp <;> rfl
    rwa [hsame, hbyteCap]
  exact ⟨withinCap_of_le hbeyond _, withinCap_of_le hbeyond _⟩

end Sys2Proof.Proofs
end

section
/-! Proofs about every instruction (10_state.md R21, 60_exceptions.md R280, R284): what no command writes, what only its
own operation writes, and the reasons a command can be refused for. -/

namespace Sys2Proof.Machine

open Sys2Proof.Claims

/-- The reasons for which the spec refuses a command (60_exceptions.md R284, 93_implementation_defined.md U2 to U6,
U8). -/
def commandRefusals : List Refusal :=
  [.reservedMode, .reservedSelector, .paletteBounds, .bitmapCapacity, .sourceCapacity, .paletteCapacity, .sourceBounds]

theorem decpxRefusal_mem {s : State} {c : Codec} {m : ModeField} {q : SelField} {r : Refusal}
    (h : s.decpxRefusal c m q = some r) : r ∈ commandRefusals := by
  unfold State.decpxRefusal at h
  split_ifs at h <;> cases h <;> decide

theorem decrgnRefusal_mem {s : State} {c : Codec} {m : ModeField} {r : Refusal}
    (h : s.decrgnRefusal c m = some r) : r ∈ commandRefusals := by
  unfold State.decrgnRefusal at h
  split_ifs at h <;> cases h <;> decide

theorem decpx_next_or_refused (s : State) (c : Codec) (m : ModeField) (q : SelField) :
    (∃ t, s.decpx c m q = .next t) ∨ ∃ r, s.decpx c m q = .refused r ∧ r ∈ commandRefusals := by
  rw [State.decpx]
  cases h : s.decpxRefusal c m q with
  | none => exact .inl ⟨_, rfl⟩
  | some r => exact .inr ⟨r, rfl, decpxRefusal_mem h⟩

theorem decrgn_next_or_refused (s : State) (c : Codec) (m : ModeField) :
    (∃ t, s.decrgn c m = .next t) ∨ ∃ r, s.decrgn c m = .refused r ∧ r ∈ commandRefusals := by
  rw [State.decrgn]
  cases h : s.decrgnRefusal c m with
  | none => exact .inl ⟨_, rfl⟩
  | some r => exact .inr ⟨r, rfl, decrgnRefusal_mem h⟩

theorem enc_next_or_refused (s : State) (c : Codec) :
    (∃ t, s.enc c = .next t) ∨ ∃ r, s.enc c = .refused r ∧ r ∈ commandRefusals := by
  rw [State.enc]
  split
  · exact .inr ⟨_, rfl, by decide⟩
  · exact .inl ⟨_, rfl⟩

end Sys2Proof.Machine

namespace Sys2Proof.Proofs

open Sys2Proof.Machine Sys2Proof.Claims

/-- Settles O49: none of the states the five operations leave differs in these fields. -/
theorem commandsNeverWriteOperands : Obligations.CommandsNeverWriteOperands := by
  intro i s t h
  obtain ⟨-, rfl⟩ | ⟨-, rfl⟩ | ⟨-, -, rfl⟩ | ⟨-, -, rfl⟩ | ⟨-, -, rfl⟩ := exec_next h <;> simp

/-- Settles O50: each operation's state differs in its own results and in STATUS only. -/
theorem resultsBelongToTheirOperation : Obligations.ResultsBelongToTheirOperation := by
  intro i s t h
  obtain ⟨hop, rfl⟩ | ⟨hop, rfl⟩ | ⟨hop, -, rfl⟩ | ⟨hop, -, rfl⟩ | ⟨hop, -, rfl⟩ := exec_next h
  all_goals simp [hop, State.readTexel, State.readByte, State.byteMem]

/-- Settles O52: FMT and P2B have no condition, and each of the other three has its own list of refusals. -/
theorem commandsCompleteOrAreRefused : Obligations.CommandsCompleteOrAreRefused := by
  intro i s
  rw [← ofParts_self i, op_ofParts]
  cases i.op with
  | fmt => exact .inl ⟨_, exec_fmt ..⟩
  | p2b => exact .inl ⟨_, exec_p2b ..⟩
  | decpx =>
    rw [exec_decpx]
    exact (decpx_next_or_refused ..).imp_right fun ⟨r, hr, hmem⟩ => ⟨r, hr, hmem, by decide⟩
  | decrgn =>
    rw [exec_decrgn]
    exact (decrgn_next_or_refused ..).imp_right fun ⟨r, hr, hmem⟩ => ⟨r, hr, hmem, by decide⟩
  | enc =>
    rw [exec_enc]
    exact (enc_next_or_refused ..).imp_right fun ⟨r, hr, hmem⟩ => ⟨r, hr, hmem, by decide⟩

end Sys2Proof.Proofs
end

section
/-! Proofs about the invariants of the machine (Safety.lean): what an invariant has to survive, said once, then the
capacities and the three invariants. -/

namespace Sys2Proof.Machine

open Sys2Proof.Claims

/-! ### What a step can do to an invariant -/

/-- A property of states that every host access and every operation keeps, wherever it completes. -/
structure KeptByAccesses (P : State → Prop) : Prop where
  dropHost : ∀ s rest, P s → P (s.dropHost rest)
  fmt : ∀ s c, P s → P (s.fmt c)
  p2b : ∀ s c, P s → P (s.pixelsToBytes c)
  decpx : ∀ s x, P s → P (s.putPixel x)
  decrgn : ∀ s c m, P s → s.pixels ≤ s.caps.bmpCap → P (s.afterRegion c m)
  enc : ∀ s c, P s → s.pixels ≤ s.caps.bmpCap → P (s.afterEnc c)
  invalidCodec : ∀ s, P s → P s.raiseInvalidCodec
  writeReg : ∀ s n v, P s → P (s.writeReg n v)
  writeByte : ∀ s sp a v, P s → a < s.byteCap sp → P (s.writeByte sp a v)
  writeTexel : ∀ s a v, P s → a < s.caps.bmpCap → P (s.writeTexel a v)
  answer : ∀ s v, P s → P (s.answer v)
  reset : ∀ s, P s → P s.doReset

namespace KeptByAccesses

variable {P : State → Prop} {s t : State}

theorem exec (h : KeptByAccesses P) {i : Instr} (hs : P s) (hexec : exec i s = .next t) : P t := by
  obtain ⟨-, rfl⟩ | ⟨-, rfl⟩ | ⟨-, -, rfl⟩ | ⟨-, hadm, rfl⟩ | ⟨-, hfits, rfl⟩ := exec_next hexec
  · exact h.fmt s _ hs
  · exact h.p2b s _ hs
  · exact h.decpx s _ hs
  · obtain ⟨⟨hfits, -⟩, -⟩ := (decrgn_admitted_iff ..).mp hadm
    exact h.decrgn s _ _ hs hfits
  · exact h.enc s _ hs hfits

theorem hostAccess (h : KeptByAccesses P) {op : HostOp} (hs : P s) (haccess : hostAccess op s = .next t) : P t := by
  obtain ⟨w, i, -, -, hexec⟩ | ⟨w, -, -, rfl⟩ | ⟨n, v, -, -, rfl⟩ | ⟨sp, a, v, -, ha, rfl⟩ | ⟨a, v, -, ha, rfl⟩ |
    ⟨v, rfl⟩ | ⟨-, rfl⟩ := hostAccess_next haccess
  · exact h.exec hs hexec
  · exact h.invalidCodec s hs
  · exact h.writeReg s n v hs
  · exact h.writeByte s sp a v hs ha
  · exact h.writeTexel s a v hs ha
  · exact h.answer s v hs
  · exact h.reset s hs

/-- Such a property is kept by every step. -/
theorem step (h : KeptByAccesses P) (hs : P s) (hstep : step s = .next t) : P t := by
  obtain ⟨-, rfl⟩ | ⟨op, rest, -, haccess⟩ := step_next hstep
  · exact hs
  · exact h.hostAccess (h.dropHost s rest hs) haccess

end KeptByAccesses

/-! ### The capacities -/

theorem capsEq_kept (k : Caps) : KeptByAccesses fun s => s.caps = k where
  dropHost _ _ h := h
  fmt _ _ h := h
  p2b _ _ h := h
  decpx _ _ h := h
  decrgn _ _ _ h _ := h
  enc _ _ h _ := h
  invalidCodec _ h := h
  writeReg s n v h := by rwa [writeReg_frame]
  writeByte s sp a v h _ := by rwa [writeByte_frame]
  writeTexel _ _ _ h _ := h
  answer _ _ h := h
  reset _ h := h

/-! ### The form of the memories -/

theorem memoryInv_reset : MemoryInv State.reset where
  srcWf := Memory.wf_unwritten
  palWf := Memory.wf_unwritten
  bmpWf := Memory.wf_unwritten
  outWf := Memory.wf_unwritten
  opalWf := Memory.wf_unwritten
  srcIn := List.forall_mem_nil _
  palIn := List.forall_mem_nil _
  bmpIn := List.forall_mem_nil _

theorem mem_cells_write_lt {α : Type} {m : Memory α} {a cap : Nat} {v : α} (ha : a < cap)
    (h : ∀ c ∈ m.cells, c.1 < cap) : ∀ c ∈ (m.write a v).cells, c.1 < cap := by
  intro c hc
  obtain hnew | hold := Memory.mem_cells_write hc
  · exact hnew ▸ ha
  · exact h c hold

theorem memoryInv_writeByte {s : State} {sp : ByteSpace} {a : Nat} (v : Byte) (h : MemoryInv s)
    (ha : a < s.byteCap sp) : MemoryInv (s.writeByte sp a v) := by
  cases sp with
  | src => exact { h with srcWf := Memory.wf_write h.srcWf a v, srcIn := mem_cells_write_lt ha h.srcIn }
  | pal => exact { h with palWf := Memory.wf_write h.palWf a v, palIn := mem_cells_write_lt ha h.palIn }
  | out => exact h
  | opal => exact h

theorem memoryInv_kept : KeptByAccesses MemoryInv where
  dropHost _ _ h := { h with }
  fmt _ _ h := { h with }
  p2b _ _ h := { h with }
  decpx _ _ h := { h with }
  decrgn s c m h hfits :=
    { h with
      bmpWf := regionLoop_wf s c m _ h.bmpWf
      bmpIn := fun x hx => (regionLoop_mem hx).elim (fun hlt => hlt.trans_le hfits) (h.bmpIn x) }
  enc s c h _ :=
    { h with
      outWf := wf_of_keys_range (encoded_shape s c).outKeys
      opalWf := wf_of_keys_range (encoded_shape s c).opalKeys }
  invalidCodec _ h := { h with }
  writeReg s n v h := by rw [writeReg_frame]; exact { h with }
  writeByte _ _ _ v h ha := memoryInv_writeByte v h ha
  writeTexel s a v h ha :=
    { h with bmpWf := Memory.wf_write h.bmpWf a _, bmpIn := mem_cells_write_lt ha h.bmpIn }
  answer _ _ h := { h with }
  reset _ _ :=
    { memoryInv_reset with
      srcIn := List.forall_mem_nil _
      palIn := List.forall_mem_nil _
      bmpIn := List.forall_mem_nil _ }

/-! ### The result registers -/

theorem resultInv_reset : ResultInv State.reset where
  statusLegal := .inl rfl
  fmtLegal := by decide
  opalLenLegal := .inl rfl
  outDefined := rfl
  opalDefined := rfl
  outFits := Nat.zero_le _

theorem fmtWord_legal (c : Codec) : fmtWord c ∈ ([0, 1, 2, 3, 4, 8, 11] : List (BitVec 4)) := by
  cases c <;> decide

theorem statusEnc_legal (n : Nat) : statusEnc n = 0 ∨ statusEnc n = 1 ∨ statusEnc n = 4 := by
  unfold statusEnc
  split
  · exact .inr (.inr rfl)
  · exact .inl rfl

theorem opalLen_legal (c : Codec) : 2 * palCapOf c = 0 ∨ 2 * palCapOf c = 32 ∨ 2 * palCapOf c = 512 := by
  have := palCapOf_cases c
  omega

theorem resultInv_afterEnc {s : State} (c : Codec) (h : ResultInv s) (hfits : s.pixels ≤ s.caps.bmpCap) :
    ResultInv (s.afterEnc c) := by
  obtain ⟨-, hout, hopal⟩ := encFrame_afterEnc s c
  have hshape := encoded_shape s c
  refine ⟨statusEnc_legal _, h.fmtLegal, ?_, ?_, ?_, ?_⟩
  · rw [hopal]
    exact opalLen_legal c
  · rw [hout]
    exact hshape.outKeys
  · rw [hopal]
    exact hshape.opalKeys
  · rw [hout]
    exact (p2b_le c _).trans (Nat.mul_le_mul_left 4 hfits)

theorem resultInv_kept : KeptByAccesses ResultInv where
  dropHost _ _ h := { h with }
  fmt _ c h := { h with statusLegal := .inl rfl, fmtLegal := fmtWord_legal c }
  p2b _ _ h := { h with statusLegal := .inl rfl }
  decpx _ _ h := { h with statusLegal := .inl rfl }
  decrgn _ _ _ h _ := { h with statusLegal := .inl rfl }
  enc _ c h hfits := resultInv_afterEnc c h hfits
  invalidCodec _ h := { h with statusLegal := .inr (.inl rfl) }
  writeReg s n v h := by rw [writeReg_frame]; exact { h with }
  writeByte s sp a v h _ := by rw [writeByte_frame]; exact { h with }
  writeTexel _ _ _ h _ := { h with }
  answer _ _ h := { h with }
  reset _ _ := { resultInv_reset with outFits := Nat.zero_le _ }

/-! ### The output palette -/

/-- A state with an empty palette and no exhaustion meets the invariant, whatever OPAL holds. -/
theorem paletteInv_of_empty {s : State} (hlen : s.opalLen = 0) (hcount : s.pCount = 0) (hexh : s.exhCnt = 0)
    (hstatus : s.status ≠ 4) : PaletteInv s where
  inUse := by simp [hcount]
  distinct j k hj _ _ := by simp [hcount] at hj
  unused a _ ha := by simp [hlen] at ha
  full h := by simp [hexh] at h
  flagged h := absurd h hstatus

theorem nodup_appearances (raw : Nat → Nat) (k : Nat) : (appearances raw k).Nodup := by
  induction k with
  | zero => exact List.nodup_nil
  | succ k ih =>
    rw [appearances]
    split
    · exact ih
    · rename_i hnew
      exact ih.append (List.nodup_singleton _) (List.disjoint_singleton.mpr hnew)

/-- The entries in use are distinct, because the palette lists first appearances (43_encode.md R235). -/
theorem PaletteBuilt.entry_inj {raw : Nat → Nat} {cap k : Nat} {e : EncBuf} (h : PaletteBuilt raw cap k e) {i j : Nat}
    (hi : i < e.pCount) (hj : j < e.pCount) (heq : e.entry i = e.entry j) : i = j := by
  have hnodup : (paletteAfter raw cap k).Nodup := (nodup_appearances raw k).sublist (List.take_sublist _ _)
  rw [← h.entries] at hnodup
  exact List.inj_on_of_nodup_map hnodup (List.mem_range.mpr hi) (List.mem_range.mpr hj) (congrArg BitVec.toNat heq)

/-- While there is room no pixel is exhausted (43_encode.md R232). -/
theorem exhaustedAfter_of_room {raw : Nat → Nat} {cap k : Nat} (hroom : (paletteAfter raw cap k).length < cap) :
    exhaustedAfter raw cap k = 0 := by
  rw [exhaustedAfter, List.length_eq_zero_iff, List.filter_eq_nil_iff]
  intro i hi
  rw [paletteAfter_of_room hroom]
  simp [mem_appearances (List.mem_range.mp hi)]

theorem PaletteBuilt.full {raw : Nat → Nat} {cap k : Nat} {e : EncBuf} (h : PaletteBuilt raw cap k e)
    (hexh : 0 < e.exhCnt) : e.pCount = cap := by
  by_contra hne
  have hle : (paletteAfter raw cap k).length ≤ cap := length_paletteAfter_le
  rw [h.length] at hle
  have hnone := exhaustedAfter_of_room (raw := raw) (cap := cap) (k := k) (by rw [h.length]; omega)
  rw [h.missed, hnone] at hexh
  exact lt_irrefl 0 hexh

theorem palCapOf_pos {c : Codec} (hc : indexed c = true) : 0 < palCapOf c := by
  rw [Nat.pos_iff_ne_zero, ne_eq, palCapOf_eq_zero_iff, hc]
  decide

theorem pCount_afterEnc_toNat (s : State) (c : Codec) : (s.afterEnc c).pCount.toNat = (s.encoded c).pCount :=
  pCount_toNat s c

theorem opalLen_afterEnc_toNat (s : State) (c : Codec) : (s.afterEnc c).opalLen.toNat = 2 * palCapOf c :=
  opalLen_toNat c

theorem exhausted_of_status_afterEnc {s : State} {c : Codec} (h : (s.afterEnc c).status = 4) :
    0 < (s.afterEnc c).exhCnt.toNat := by
  rw [status_afterEnc] at h
  by_contra hnone
  rw [if_neg hnone] at h
  exact absurd h (by decide)

theorem paletteInv_afterEnc_of_indexed (s : State) {c : Codec} (hc : indexed c = true) :
    PaletteInv (s.afterEnc c) := by
  have h : PaletteBuilt _ _ _ (s.encoded c) := paletteBuilt_encodedTo s hc (pixelCount s)
  have hroom := (encoded_shape s c).room
  refine ⟨?_, fun j k hj hk heq => ?_, fun a hlo hhi => ?_, fun hexh => ?_, exhausted_of_status_afterEnc⟩
  · rw [pCount_afterEnc_toNat, opalLen_afterEnc_toNat]
    exact Nat.mul_le_mul_left 2 hroom
  · rw [pCount_afterEnc_toNat] at hj hk
    exact h.entry_inj hj hk heq
  · rw [pCount_afterEnc_toNat] at hlo
    rw [opalLen_afterEnc_toNat] at hhi
    exact h.unused a hlo hhi
  · rw [exhCnt_afterEnc_toNat] at hexh
    have hcap := palCapOf_pos hc
    rw [pCount_afterEnc_toNat, opalLen_afterEnc_toNat, h.full hexh]
    exact ⟨rfl, by omega⟩

theorem paletteInv_afterEnc (s : State) (c : Codec) : PaletteInv (s.afterEnc c) := by
  cases hc : indexed c with
  | true => exact paletteInv_afterEnc_of_indexed s hc
  | false =>
    have hcap := (palCapOf_eq_zero_iff c).mpr hc
    obtain ⟨hcount, hexh⟩ := counts_afterEnc_of_plain s hcap
    have hlen : (s.afterEnc c).opalLen = 0 := by rw [State.afterEnc, State.encDone_opalLen, hcap]; rfl
    exact paletteInv_of_empty hlen hcount hexh (by rw [status_afterEnc, hexh]; decide)

theorem statusOk_ne_exhausted : statusOk ≠ 4 := by decide

theorem paletteInv_kept : KeptByAccesses PaletteInv where
  dropHost _ _ h := { h with }
  fmt _ _ h := { h with flagged := fun h4 => absurd h4 statusOk_ne_exhausted }
  p2b _ _ h := { h with flagged := fun h4 => absurd h4 statusOk_ne_exhausted }
  decpx _ _ h := { h with flagged := fun h4 => absurd h4 statusOk_ne_exhausted }
  decrgn _ _ _ h _ := { h with flagged := fun h4 => absurd h4 statusOk_ne_exhausted }
  enc s c _ _ := paletteInv_afterEnc s c
  invalidCodec _ h := { h with flagged := fun h4 => absurd h4 (show (1 : BitVec 3) ≠ 4 by decide) }
  writeReg s n v h := by rw [writeReg_frame]; exact { h with }
  writeByte s sp a v h _ := by rw [writeByte_frame]; exact { h with }
  writeTexel _ _ _ h _ := { h with }
  answer _ _ h := { h with }
  reset _ _ := paletteInv_of_empty rfl rfl rfl (by simp)

end Sys2Proof.Machine

namespace Sys2Proof.Proofs

open Sys2Proof.Machine Sys2Proof.Claims

/-- Settles O56: writes keep a memory's order and stay below the capacity, and a region that fits does too. -/
theorem stepKeepsMemoryForm : Obligations.StepKeepsMemoryForm := fun _ _ => memoryInv_kept.step

/-- Settles O57: only an ENC writes OUT and OPAL, and its buffers keep exactly the bytes it delivers. -/
theorem stepKeepsResultRegisters : Obligations.StepKeepsResultRegisters := fun _ _ => resultInv_kept.step

/-- Settles O58: only an ENC writes the palette, whose entries are the first appearances of the raw values. -/
theorem stepKeepsPaletteDistinct : Obligations.StepKeepsPaletteDistinct := fun _ _ => paletteInv_kept.step

/-- Settles O53: having its capacities is a property that every access keeps. -/
theorem capacitiesNeverChange : Obligations.CapacitiesNeverChange := fun s _ => (capsEq_kept s.caps).step rfl

/-- Settles O54: the uninterpreted constants are reduced into the bounds. -/
theorem resetCapacitiesAreAdmitted : Obligations.ResetCapacitiesAreAdmitted := by
  have hsrc : Config.rawSrcCap % (2 ^ 32 - 1) < 2 ^ 32 - 1 := Nat.mod_lt _ (by decide)
  have hbmp : Config.rawBmpCap % (2 ^ 30 - 1) < 2 ^ 30 - 1 := Nat.mod_lt _ (by decide)
  show Config.caps.ok
  simp only [Caps.ok, Config.caps]
  omega

/-- Settles O55: nothing is written and every register is 0. -/
theorem resetMeetsInvariants : Obligations.ResetMeetsInvariants :=
  ⟨memoryInv_reset, resultInv_reset, paletteInv_of_empty rfl rfl rfl (by decide)⟩

end Sys2Proof.Proofs
end

section
/-! Proofs about what a decode depends on (41_decode_pixel.md R172) and about the tail of a region that a short source
leaves alone (42_decode_region.md R192). -/

namespace Sys2Proof.Machine

open Sys2Proof.Claims

/-- A texel's palette index is a function of its first byte (41_decode_pixel.md R167, R168). -/
theorem texelIndex_congr_of_srcAt {s s' : State} {a : Nat} (c : Codec) (k : Nat) (h : s'.srcAt a 0 = s.srcAt a 0) :
    s'.texelIndex c a k = s.texelIndex c a k := by
  simp only [State.texelIndex, h]

/-- A texel's Color is a function of its own bytes and, in an indexed codec, of its palette entry
(41_decode_pixel.md R157). -/
theorem decodeTexel_congr_of_bytes {s s' : State} {c : Codec} {a k : Nat} (m : AlphaMode)
    (hsrc : ∀ j, j < need c → s'.srcAt a j = s.srcAt a j)
    (hpal : needsPalette c = true → s'.palColor (s.texelIndex c a k) = s.palColor (s.texelIndex c a k)) :
    s'.decodeTexel c m a k = s.decodeTexel c m a k := by
  cases c with
  | rgba16 => simp only [State.decodeTexel, State.texRgba16, hsrc 0 (by decide), hsrc 1 (by decide)]
  | rgba32 =>
    simp only [State.decodeTexel, State.texRgba32, hsrc 0 (by decide), hsrc 1 (by decide), hsrc 2 (by decide),
      hsrc 3 (by decide)]
  | ia16 => simp only [State.decodeTexel, State.texIa16, hsrc 0 (by decide), hsrc 1 (by decide)]
  | ia8 => simp only [State.decodeTexel, State.texIa8, hsrc 0 (by decide)]
  | ia4 => simp only [State.decodeTexel, State.texIa4, hsrc 0 (by decide)]
  | i8 => simp only [State.decodeTexel, State.texI8, hsrc 0 (by decide)]
  | i4 => simp only [State.decodeTexel, State.texI4, hsrc 0 (by decide)]
  | ci8 => exact (congrArg s'.palColor (texelIndex_congr_of_srcAt .ci8 0 (hsrc 0 (by decide)))).trans (hpal rfl)
  | ci4 => exact (congrArg s'.palColor (texelIndex_congr_of_srcAt .ci4 k (hsrc 0 (by decide)))).trans (hpal rfl)
  | oneBpp => simp only [State.decodeTexel, State.texOneBpp, hsrc 0 (by decide)]

theorem need_pos (c : Codec) : 0 < need c := by cases c <;> decide

/-- The texel of an admitted DECPX has all its bytes below SRCLEN (20_memory.md R67). -/
theorem lt_srcLen_of_inSource {s : State} {c : Codec} {a j : Nat} (h : s.inSource c a = true) (hj : j < need c) :
    a + j < s.srcLen.toNat := by
  rw [inSource_iff] at h
  omega

theorem palColor_congr_of_inPalette {s s' : State} {k : Nat} (h : s.inPalette k = true)
    (hpal : ∀ a, a < s.palLen.toNat → s'.readByte .pal a = s.readByte .pal a) : s'.palColor k = s.palColor k := by
  rw [inPalette_iff] at h
  rw [State.palColor, hpal _ (by omega), hpal _ (by omega), State.palColor]

theorem exec_decpx_next_iff (s t : State) (c : Codec) (m : ModeField) (q : SelField) :
    exec (Instr.ofParts .decpx c m q) s = .next t ↔
      s.decpxRefusal c m q = none ∧ t = s.putPixel (s.decpxColor c m q) := by rw [exec_decpx, decpx_next_iff]

/-! ### The tail of a region -/

theorem texelAddr_mono (c : Codec) (base : Nat) {idx later : Nat} (h : idx ≤ later) :
    texelAddr c base idx ≤ texelAddr c base later := by
  unfold texelAddr
  split <;> omega

/-- A texel behind one that is out of bounds is out of bounds too (42_decode_region.md R192). -/
theorem not_texelIn_of_le {s : State} {n a b : Nat} (h : ¬TexelIn s n a) (hab : a ≤ b) : ¬TexelIn s n b := by
  unfold TexelIn at h ⊢
  omega

end Sys2Proof.Machine

namespace Sys2Proof.Proofs

open Sys2Proof.Machine Sys2Proof.Claims

/-- Settles O27: the admission and the Color look at the texel's bytes, which lie below SRCLEN, and at its palette
entry, which lies below PALLEN. -/
theorem decpxDependsOnItsInputs : Obligations.DecpxDependsOnItsInputs := by
  intro c m q s s' t hoffset hsrcLen hpalLen hcaps hsrc hpal hexec
  obtain ⟨hadm, rfl⟩ := (exec_decpx_next_iff ..).mp hexec
  obtain ⟨hmode, hsel, hcap, hin, hentry⟩ := (decpxRefusal_eq_none_iff ..).mp hadm
  have hbytes : ∀ j, j < need c → s'.srcAt s.offset.toNat j = s.srcAt s.offset.toNat j := fun j hj =>
    hsrc _ (lt_srcLen_of_inSource hin hj)
  have hindex := texelIndex_congr_of_srcAt c q.toNat (hbytes 0 (need_pos c))
  have hcolor : s'.decpxColor c m q = s.decpxColor c m q := by
    rw [State.decpxColor, hoffset]
    exact decodeTexel_congr_of_bytes _ hbytes fun hneeds => palColor_congr_of_inPalette (hentry hneeds).2 hpal
  have hadm' : s'.decpxRefusal c m q = none := by
    rw [decpxRefusal_eq_none_iff, inSource_iff, inPalette_iff, hoffset, hsrcLen, hpalLen, hcaps, hindex,
      ← inSource_iff, ← inPalette_iff]
    exact ⟨hmode, hsel, hcap, hin, hentry⟩
  exact ⟨_, (exec_decpx_next_iff ..).mpr ⟨hadm', rfl⟩, congrArg colorToWord hcolor, rfl⟩

/-- Settles O33: texel addresses do not fall, so what is skipped once is skipped from there on. -/
theorem shortSourceSkipsTheTail : Obligations.ShortSourceSkipsTheTail := by
  intro c m q s t idx later hexec _ hout hle
  obtain ⟨-, rfl⟩ := (exec_decrgn_next_iff ..).mp hexec
  have hlater := not_texelIn_of_le hout (texelAddr_mono c s.offset.toNat hle)
  exact ⟨rfl, readTexel_afterRegion_of_not_texelIn m fun h => hout h.2,
    readTexel_afterRegion_of_not_texelIn m fun h => hlater h.2⟩

end Sys2Proof.Proofs
end

section
/-! Proofs about ENC as a whole (43_encode.md R234, R240 to R242, R250): its admission, the bitmap with no pixel, the
indices of CI8, and that two encodes of one bitmap deliver the same. -/

namespace Sys2Proof.Machine

open Sys2Proof.Claims

/-! ### Admission -/

theorem exec_enc_next_iff (s t : State) (c : Codec) (m : ModeField) (q : SelField) :
    exec (Instr.ofParts .enc c m q) s = .next t ↔ BitmapFits s ∧ t = s.afterEnc c := by
  rw [exec_enc, enc_next_iff]
  rfl

theorem refuses_enc_of_not_fits {s : State} (h : ¬BitmapFits s) (c : Codec) (m : ModeField) (q : SelField) :
    Refuses (Instr.ofParts .enc c m q) s := by
  refine ⟨.bitmapCapacity, ?_⟩
  rw [exec_enc, State.enc]
  exact if_pos (Nat.lt_of_not_le h)

/-! ### No pixel -/

theorem encoded_of_no_pixel {s : State} (h : pixelCount s = 0) (c : Codec) : s.encoded c = s.encStart c := by
  rw [← encodedTo_pixelCount, h]
  rfl

theorem p2b_zero (c : Codec) : p2b c 0 = 0 := by cases c <;> rfl

theorem outLen_afterEnc_toNat (s : State) (c : Codec) : (s.afterEnc c).outLen.toNat = p2b c (pixelCount s) :=
  outLen_toNat s c

theorem opalLen_by_codec (c : Codec) :
    2 * palCapOf c = if c = .ci8 then 512 else if c = .ci4 then 32 else 0 := by cases c <;> rfl

/-- The fresh palette is zero-filled to its length (43_encode.md R233). -/
theorem readOpal_encStart {s : State} {c : Codec} {a : Nat} (h : a < 2 * palCapOf c) :
    (s.encStart c).readOpal a = 0 := Memory.read_fresh _ _ _ _ _ h

theorem opalNo_afterEnc (s : State) (c : Codec) (a : Nat) :
    opalNo (s.afterEnc c) a = ((s.encoded c).readOpal a).toNat := rfl

/-! ### The indices of CI8 and CI4 -/

theorem EncBuf.readOut_palAssign (e : EncBuf) (v : BitVec 16) (cap a : Nat) :
    (e.palAssign v cap).readOut a = e.readOut a := by
  rw [readOut, palAssign_out, readOut]

/-- The byte of a pixel is the index its lookup-or-append returned (43_encode.md R250). -/
theorem readOut_encoded_ci8 {s : State} {idx : Nat} (hidx : idx < pixelCount s) :
    (s.encoded .ci8).readOut idx =
      BitVec.ofNat 8 ((s.encodedTo .ci8 idx).palIndex (colorToRaw16 (s.readTexel idx)) 256) := by
  rw [view_encoded EncBuf.readOut id
    (fun k _ => BitVec.ofNat 8 ((s.encodedTo .ci8 k).palIndex (colorToRaw16 (s.readTexel k)) 256)) fun k p => ?_]
  · exact if_pos hidx
  · refine (EncBuf.readOut_oneByte _ k p _).trans ?_
    rw [EncBuf.readOut_palAssign]
    rfl

theorem palIndex_encodedTo_lt (s : State) {c : Codec} (hc : indexed c = true) (idx : Nat) (v : BitVec 16) :
    (s.encodedTo c idx).palIndex v (palCapOf c) < palCapOf c := by
  have hbuilt := paletteBuilt_encodedTo s hc idx
  exact EncBuf.palIndex_lt (palCapOf_pos hc) (hbuilt.length ▸ length_paletteAfter_le) v

theorem palIndex_ci8_toNat (s : State) (idx : Nat) (v : BitVec 16) :
    (BitVec.ofNat 8 ((s.encodedTo .ci8 idx).palIndex v 256)).toNat = (s.encodedTo .ci8 idx).palIndex v 256 := by
  rw [BitVec.toNat_ofNat]
  exact Nat.mod_eq_of_lt (palIndex_encodedTo_lt s (c := .ci8) rfl idx v)

/-- The byte of a CI8 pixel is the right index for the finished palette (43_encode.md R250). -/
theorem indexFor_ci8 {s : State} {idx : Nat} (hidx : idx < pixelCount s) :
    IndexFor s 256 idx (outNo (s.afterEnc .ci8) idx) := by
  rw [outNo_afterEnc, readOut_encoded_ci8 hidx, palIndex_ci8_toNat]
  exact indexFor_palIndex (c := .ci8) rfl hidx

/-- The nibble of a CI4 pixel is the right index for the finished palette (43_encode.md R251). -/
theorem indexFor_ci4 {s : State} {idx : Nat} (hidx : idx < pixelCount s) :
    IndexFor s 16 idx (nibNo (outNo (s.afterEnc .ci4) (idx / 2)) (idx % 2)) := by
  rw [outNo_afterEnc, ← nib_toNat_eq_nibNo, nib_encoded_ci4 (by omega), if_pos hidx, palIndex_ci4_toNat]
  exact indexFor_palIndex (c := .ci4) rfl hidx

/-! ### Two encodes of one bitmap -/

theorem firstBelow_congr {n : Nat} {p q : Nat → Bool} (h : ∀ i, i < n → p i = q i) :
    firstBelow n p = firstBelow n q := by
  induction n with
  | zero => rfl
  | succ n ih => rw [firstBelow, firstBelow, ih fun i hi => h i (Nat.lt_succ_of_lt hi), h n (Nat.lt_succ_self n)]

namespace EncBuf

variable {e : EncBuf} {v : BitVec 16} {cap : Nat}

theorem palAssign_of_found {j : Nat} (h : e.palFind v = some j) : e.palAssign v cap = e := by rw [palAssign, h]

theorem palAssign_of_room (hnew : e.palFind v = none) (hroom : e.pCount < cap) :
    e.palAssign v cap = e.appendEntry v := by
  rw [palAssign, hnew]
  exact if_pos hroom

theorem palAssign_of_full (hnew : e.palFind v = none) (hfull : ¬e.pCount < cap) :
    e.palAssign v cap = { e with exhCnt := e.exhCnt + 1 } := by
  rw [palAssign, hnew]
  exact if_neg hfull

end EncBuf

/-- Two buffers under construction deliver the same: they agree on the bytes of OUT and OPAL that the command defines
and on the counts (43_encode.md R234, R240). What lies past the delivered bytes may differ. -/
structure EncAgree (c : Codec) (n : Nat) (e e' : EncBuf) : Prop where
  out : ∀ a, a < p2b c n → e'.readOut a = e.readOut a
  opal : ∀ a, a < 2 * palCapOf c → e'.readOpal a = e.readOpal a
  pCount : e'.pCount = e.pCount
  exhCnt : e'.exhCnt = e.exhCnt
  room : e.pCount ≤ palCapOf c

namespace EncAgree

variable {c : Codec} {n idx : Nat} {e e' : EncBuf}

theorem writeOut (h : EncAgree c n e e') (a : Nat) (v : Byte) : EncAgree c n (e.writeOut a v) (e'.writeOut a v) :=
  { h with out := fun b hb => by rw [EncBuf.readOut_writeOut, EncBuf.readOut_writeOut, h.out b hb] }

theorem entry (h : EncAgree c n e e') {j : Nat} (hj : j < palCapOf c) : e'.entry j = e.entry j := by
  rw [EncBuf.entry, h.opal _ (by omega), h.opal _ (by omega), EncBuf.entry]

theorem palFind (h : EncAgree c n e e') (v : BitVec 16) : e'.palFind v = e.palFind v := by
  rw [EncBuf.palFind, h.pCount, EncBuf.palFind]
  exact firstBelow_congr fun j hj => by rw [h.entry (hj.trans_le h.room)]

theorem palIndex (h : EncAgree c n e e') (v : BitVec 16) :
    e'.palIndex v (palCapOf c) = e.palIndex v (palCapOf c) := by
  rw [EncBuf.palIndex, h.palFind, h.pCount, EncBuf.palIndex]

theorem appendEntry (h : EncAgree c n e e') (v : BitVec 16) (hroom : e.pCount < palCapOf c) :
    EncAgree c n (e.appendEntry v) (e'.appendEntry v) where
  out := h.out
  opal a ha := by rw [EncBuf.readOpal_appendEntry, EncBuf.readOpal_appendEntry, h.pCount, h.opal a ha]
  pCount := congrArg (· + 1) h.pCount
  exhCnt := h.exhCnt
  room := hroom

/-- A lookup-or-append sees the entries in use only (43_encode.md R234). -/
theorem palAssign (h : EncAgree c n e e') (v : BitVec 16) :
    EncAgree c n (e.palAssign v (palCapOf c)) (e'.palAssign v (palCapOf c)) := by
  have hfind := h.palFind v
  have hcount := h.pCount
  cases hold : e.palFind v with
  | some j =>
    rw [EncBuf.palAssign_of_found hold, EncBuf.palAssign_of_found (hfind.trans hold)]
    exact h
  | none =>
    by_cases hroom : e.pCount < palCapOf c
    · rw [EncBuf.palAssign_of_room hold hroom, EncBuf.palAssign_of_room (hfind.trans hold) (hcount ▸ hroom)]
      exact h.appendEntry v hroom
    · rw [EncBuf.palAssign_of_full hold hroom, EncBuf.palAssign_of_full (hfind.trans hold) (hcount ▸ hroom)]
      exact { h with exhCnt := congrArg (· + 1) h.exhCnt }

theorem putNibbleAt (h : EncAgree c n e e') (hclass : packClass c = .nibble) (hidx : idx < n) (v : BitVec 4) :
    EncAgree c n (e.putNibbleAt idx v) (e'.putNibbleAt idx v) := by
  have hbyte : idx / 2 < p2b c n := by
    rw [p2b, hclass]
    show idx / 2 < (n + 1) / 2
    omega
  rw [EncBuf.putNibbleAt, EncBuf.putNibbleAt, h.out _ hbyte]
  exact h.writeOut _ _

theorem encCi8 (h : EncAgree .ci8 n e e') (x : Color) : EncAgree .ci8 n (e.encCi8 idx x) (e'.encCi8 idx x) := by
  have hindex : e'.palIndex (colorToRaw16 x) 256 = _ := h.palIndex (colorToRaw16 x)
  rw [EncBuf.encCi8, EncBuf.encCi8, hindex]
  exact (h.palAssign _).writeOut _ _

theorem encCi4 (h : EncAgree .ci4 n e e') (hidx : idx < n) (x : Color) :
    EncAgree .ci4 n (e.encCi4 idx x) (e'.encCi4 idx x) := by
  have hindex : e'.palIndex (colorToRaw16 x) 16 = _ := h.palIndex (colorToRaw16 x)
  rw [EncBuf.encCi4, EncBuf.encCi4, hindex]
  exact (h.palAssign _).putNibbleAt rfl hidx _

theorem encOneBpp (h : EncAgree .oneBpp n e e') (hidx : idx < n) (x : Color) :
    EncAgree .oneBpp n (e.encOneBpp idx x) (e'.encOneBpp idx x) := by
  have hbyte : idx / 8 < p2b .oneBpp n := by
    show idx / 8 < (n + 7) / 8
    omega
  rw [EncBuf.encOneBpp, EncBuf.encOneBpp, h.out _ hbyte]
  exact h.writeOut _ _

theorem encTexel (h : EncAgree c n e e') (hidx : idx < n) (x : Color) :
    EncAgree c n (e.encTexel c idx x) (e'.encTexel c idx x) := by
  cases c with
  | rgba16 | ia16 => exact (h.writeOut _ _).writeOut _ _
  | rgba32 => exact (((h.writeOut _ _).writeOut _ _).writeOut _ _).writeOut _ _
  | ia8 | i8 => exact h.writeOut _ _
  | ia4 | i4 => exact h.putNibbleAt rfl hidx _
  | ci8 => exact h.encCi8 x
  | ci4 => exact h.encCi4 hidx x
  | oneBpp => exact h.encOneBpp hidx x

end EncAgree

section TwoEncodes

variable {s s' : State}

theorem encAgree_encStart (c : Codec) (hcount : pixelCount s' = pixelCount s) :
    EncAgree c (pixelCount s) (s.encStart c) (s'.encStart c) where
  out a ha := by rw [readOut_encStart ha, readOut_encStart (hcount ▸ ha)]
  opal a ha := by rw [readOpal_encStart ha, readOpal_encStart ha]
  pCount := rfl
  exhCnt := rfl
  room := Nat.zero_le _

theorem encAgree_encoded (c : Codec) (hcount : pixelCount s' = pixelCount s)
    (htexels : ∀ idx, idx < pixelCount s → s'.readTexel idx = s.readTexel idx) :
    EncAgree c (pixelCount s) (s.encoded c) (s'.encoded c) := by
  have hafter (k : Nat) (hk : k ≤ pixelCount s) : EncAgree c (pixelCount s) (s.encodedTo c k) (s'.encodedTo c k) := by
    induction k with
    | zero => exact encAgree_encStart c hcount
    | succ k ih =>
      rw [encodedTo_succ, encodedTo_succ, htexels k hk]
      exact (ih (Nat.le_of_succ_le hk)).encTexel hk _
  rw [← encodedTo_pixelCount, ← encodedTo_pixelCount, hcount]
  exact hafter _ le_rfl

end TwoEncodes

end Sys2Proof.Machine

namespace Sys2Proof.Proofs

open Sys2Proof.Machine Sys2Proof.Claims

/-- Settles O40: the table builder follows the list of first appearances, and each pixel's byte is the index it was
given. -/
theorem encCi8BuildsPalette : Obligations.EncCi8BuildsPalette := by
  intro m q s hfits
  exact ⟨_, runs_enc hfits .ci8 m q, encFrame_afterEnc s .ci8, paletteDone_afterEnc s rfl, fun _ => indexFor_ci8⟩

/-- Settles O42: the one condition of an ENC is that the bitmap fits. -/
theorem encAdmission : Obligations.EncAdmission := by
  intro c m q s
  exact ⟨fun hfits => ⟨_, exec_enc_of_fits hfits c m q⟩, fun hover =>
    refuses_enc_of_not_fits (Nat.not_le.mpr hover) c m q⟩

/-- Settles O43: an encode of no pixel leaves the buffers as they are at the start, zero-filled. -/
theorem emptyBitmapsAreNoErrors : Obligations.EmptyBitmapsAreNoErrors := by
  intro c m q s hempty
  have hnone : pixelCount s = 0 := by
    obtain h | h := hempty <;> simp [pixelCount, h]
  have hfits : BitmapFits s := by
    rw [BitmapFits, hnone]
    exact Nat.zero_le _
  have hencoded := encoded_of_no_pixel hnone c
  have hexh : (s.afterEnc c).exhCnt = 0 := by rw [State.afterEnc, hencoded]; rfl
  refine ⟨_, exec_enc_of_fits hfits c m q, ?_, ?_, hexh, ?_, ?_, fun a ha => ?_⟩
  · apply BitVec.eq_of_toNat_eq
    rw [outLen_afterEnc_toNat, hnone, p2b_zero]
    rfl
  · rw [State.afterEnc, hencoded]
    rfl
  · rw [status_afterEnc, hexh]
    rfl
  · rw [opalLen_afterEnc_toNat, opalLen_by_codec]
  · rw [opalLen_afterEnc_toNat] at ha
    rw [opalNo_afterEnc, hencoded, readOpal_encStart ha]
    rfl

/-- Settles O44: pixel by pixel the two commands do the same to buffers that deliver the same. -/
theorem encDependsOnBitmapOnly : Obligations.EncDependsOnBitmapOnly := by
  intro c m m' q q' s s' t hwidth hheight hcap htexels hexec
  obtain ⟨hfits, rfl⟩ := (exec_enc_next_iff ..).mp hexec
  have hcount : pixelCount s' = pixelCount s := by rw [pixelCount, hwidth, hheight, pixelCount]
  have hfits' : BitmapFits s' := by
    rw [BitmapFits, hcount, hcap]
    exact hfits
  obtain ⟨hout, hopal, hp, he, -⟩ := encAgree_encoded c hcount htexels
  have hexh : (s'.afterEnc c).exhCnt = (s.afterEnc c).exhCnt := congrArg (BitVec.ofNat 30) he
  refine ⟨_, exec_enc_of_fits hfits' c m' q', ?_, rfl, congrArg (BitVec.ofNat 9) hp, hexh, ?_, fun a ha => ?_,
    fun a ha => ?_⟩
  · exact congrArg (fun n => BitVec.ofNat 32 (p2b c n)) hcount
  · rw [status_afterEnc, hexh, status_afterEnc]
  · exact hout a (outLen_afterEnc_toNat s c ▸ ha)
  · exact hopal a (opalLen_afterEnc_toNat s c ▸ ha)

end Sys2Proof.Proofs
end

section
/-! Proofs about the round trips (43_encode.md R263): what a decode of the copied output reads, that it is admitted, and
the Color it gives for each of the five codecs. -/

namespace Sys2Proof.Machine

open Sys2Proof.Claims

/-! ### The decode of a copied output -/

/-- An encoded texel lies in the output, whose length is the source's after the copy (20_memory.md R65, R67). -/
theorem texelAddr_add_lt_p2b (c : Codec) {n idx : Nat} (h : idx < n) :
    texelAddr c 0 idx + bytesNeeded c - 1 < p2b c n := by
  cases c <;> simp only [texelAddr, p2b, packClass, bytesNeeded] <;> omega

section Copy

variable {s u : State} {c : Codec}

theorem pixelCount_of_copiedBack (h : CopiedBack (s.afterEnc c) u) : pixelCount u = pixelCount s := by
  obtain ⟨hwidth, hheight, -⟩ := h
  rw [pixelCount, hwidth, hheight]
  rfl

theorem readSrc_of_copiedBack (h : CopiedBack (s.afterEnc c) u) {a : Nat} (ha : a < p2b c (pixelCount s)) :
    u.readByte .src a = (s.encoded c).readOut a := by
  obtain ⟨-, -, -, -, hbytes, -⟩ := h
  exact hbytes a (outLen_afterEnc_toNat s c ▸ ha)

theorem srcNo_of_copiedBack (h : CopiedBack (s.afterEnc c) u) {a : Nat} (ha : a < p2b c (pixelCount s)) :
    srcNo u a = outNo (s.afterEnc c) a := by
  rw [srcNo, readSrc_of_copiedBack h ha, outNo_afterEnc]

theorem regionFits_of_copiedBack (h : CopiedBack (s.afterEnc c) u) : RegionFits u := by
  obtain ⟨-, -, -, -, -, hfits⟩ := h
  exact hfits

theorem offset_of_copiedBack (h : CopiedBack (s.afterEnc c) u) : u.offset.toNat = 0 := by
  obtain ⟨-, -, hoffset, -⟩ := h
  rw [hoffset]
  rfl

/-- Every texel of the region is in bounds of the copied output. -/
theorem texelIn_of_copiedBack (h : CopiedBack (s.afterEnc c) u) {idx : Nat} (hidx : idx < pixelCount s) :
    TexelIn u (bytesNeeded c) (texelAddr c u.offset.toNat idx) := by
  have hlen : u.srcLen.toNat = p2b c (pixelCount s) := by
    obtain ⟨-, -, -, hlen, -⟩ := h
    rw [hlen, outLen_afterEnc_toNat]
  rw [TexelIn, offset_of_copiedBack h, hlen]
  exact texelAddr_add_lt_p2b c hidx

/-- So every texel of the region is decoded, from the address it was encoded to. -/
theorem readTexel_of_copiedBack (h : CopiedBack (s.afterEnc c) u) (m : ModeField) {idx : Nat}
    (hidx : idx < pixelCount s) :
    (u.afterRegion c m).readTexel idx = u.decodeTexel c (modeOf m) (texelAddr c 0 idx) (texelSel c idx) := by
  have hin : idx < pixelCount u := by rwa [pixelCount_of_copiedBack h]
  rw [readTexel_afterRegion_of_texelIn m ⟨hin, texelIn_of_copiedBack h hidx⟩, State.regionColor,
    offset_of_copiedBack h]

/-- A codec that reads neither MODE nor a palette decodes its copied output without further condition. -/
theorem exec_decrgn_of_copiedBack (h : CopiedBack (s.afterEnc c) u) (hmode : readsMode c = false)
    (hpal : needsPalette c = false) (m : ModeField) (q : SelField) :
    exec (Instr.ofParts .decrgn c m q) u = .next (u.afterRegion c m) :=
  (exec_decrgn_next_iff ..).mpr
    ⟨(decrgn_admitted_iff ..).mpr (by simp [hmode, hpal, regionFits_of_copiedBack h]), rfl⟩

/-! ### RGBA32, RGBA16, IA8 -/

theorem texRgba32_of_copiedBack (h : CopiedBack (s.afterEnc .rgba32) u) {idx : Nat} (hidx : idx < pixelCount s) :
    u.texRgba32 (0 + idx * 4) = s.readTexel idx := by
  have hbyte (j : Nat) (hj : j < 4) : u.srcAt (0 + idx * 4) j = channel (s.readTexel idx) j := by
    rw [State.srcAt, show 0 + idx * 4 + j = 4 * idx + j by omega, readSrc_of_copiedBack h,
      readOut_encoded_rgba32 hidx hj]
    show 4 * idx + j < 4 * pixelCount s
    omega
  rw [State.texRgba32, hbyte 0 (by decide), hbyte 1 (by decide), hbyte 2 (by decide), hbyte 3 (by decide)]
  rfl

/-- A raw value's fields are the reduced channels (43_encode.md R225). -/
theorem colorToRaw16_fields (x : Color) :
    (colorToRaw16 x).getLsbD 0 = bin1 x.a ∧ (colorToRaw16 x).extractLsb' 11 5 = dn5 x.r ∧
      (colorToRaw16 x).extractLsb' 6 5 = dn5 x.g ∧ (colorToRaw16 x).extractLsb' 1 5 = dn5 x.b := by
  have hraw : (colorToRaw16 x).toNat =
      (((dn5 x.r).toNat * 32 + (dn5 x.g).toNat) * 32 + (dn5 x.b).toNat) * 2 + (bin1 x.a).toNat := by
    simp only [colorToRaw16, toNat_app, BitVec.toNat_ofBool]
    norm_num
  have hr := (dn5 x.r).isLt
  have hg := (dn5 x.g).isLt
  have hb := (dn5 x.b).isLt
  have ha := (bin1 x.a).toNat_lt
  refine ⟨?_, BitVec.eq_of_toNat_eq ?_, BitVec.eq_of_toNat_eq ?_, BitVec.eq_of_toNat_eq ?_⟩
  · rw [colorToRaw16, BitVec.getLsbD_append]
    simp
  · rw [toNat_extract, hraw]
    omega
  · rw [toNat_extract, hraw]
    omega
  · rw [toNat_extract, hraw]
    omega

/-- The two bytes of a raw value give each channel reduced and expanded again (41_decode_pixel.md R153,
43_encode.md R225). -/
theorem rgba16ToColor_colorToRaw16 (x : Color) :
    rgba16ToColor (hiByte (colorToRaw16 x)) (loByte (colorToRaw16 x)) =
      { a := up1 (bin1 x.a), r := up5 (dn5 x.r), g := up5 (dn5 x.g), b := up5 (dn5 x.b) } := by
  obtain ⟨ha, hr, hg, hb⟩ := colorToRaw16_fields x
  simp only [rgba16ToColor, hiByte_append_loByte, ha, hr, hg, hb]

theorem texRgba16_of_copiedBack (h : CopiedBack (s.afterEnc .rgba16) u) {idx : Nat} (hidx : idx < pixelCount s) :
    u.texRgba16 (0 + idx * 2) =
      rgba16ToColor (hiByte (colorToRaw16 (s.readTexel idx))) (loByte (colorToRaw16 (s.readTexel idx))) := by
  obtain ⟨hhi, hlo⟩ := readOut_encoded_twoBytes (c := .rgba16) (fun _ _ _ => rfl) hidx
  have hlen : p2b .rgba16 (pixelCount s) = 2 * pixelCount s := rfl
  have haddr : 0 + idx * 2 = 2 * idx := by omega
  rw [State.texRgba16, State.srcAt, State.srcAt, haddr, readSrc_of_copiedBack h (by omega),
    readSrc_of_copiedBack h (by omega), Nat.add_zero, hhi, hlo]

theorem srcNo_of_copiedBack_ia8 (h : CopiedBack (s.afterEnc .ia8) u) {idx : Nat} (hidx : idx < pixelCount s) :
    srcNo u idx = meanNo s idx / 17 * 16 + alphaOfTexel s idx / 17 := by
  rw [srcNo_of_copiedBack h hidx, outNo_afterEnc, readOut_encoded_oneByte (c := .ia8) (fun _ _ _ => rfl) hidx, toNat_app,
    dn4_toNat, dn4_toNat, mean3_toNat]
  rfl

theorem ia8No_of_reduced (i : Nat) {a : Nat} (ha : a / 17 < 16) :
    ia8No (i / 17 * 16 + a / 17) = greyNo (17 * (a / 17)) (17 * (i / 17)) := by
  have halpha : (i / 17 * 16 + a / 17) % 16 * 17 = 17 * (a / 17) := by omega
  have hmean : (i / 17 * 16 + a / 17) / 16 * 17 = 17 * (i / 17) := by omega
  rw [ia8No, halpha, hmean]

/-! ### CI8, CI4 -/

theorem regionIndex_ci8 (s : State) (idx : Nat) : s.regionIndex .ci8 idx = srcNo s (s.offset.toNat + idx) := by
  rw [State.regionIndex, texelIndex_ci8, texelAddr_oneByte rfl]

theorem regionIndex_ci4 (s : State) (idx : Nat) :
    s.regionIndex .ci4 idx = nibNo (srcNo s (s.offset.toNat + idx / 2)) (idx % 2) := by
  rw [State.regionIndex, texelIndex_ci4, texelAddr_nibble rfl]
  rfl

/-- The index the decode of a copied output reads for a pixel is the one the encode stored for it. -/
theorem indexFor_regionIndex (hc : indexed c = true) (h : CopiedBack (s.afterEnc c) u) {idx : Nat}
    (hidx : idx < pixelCount s) : IndexFor s (palCapOf c) idx (u.regionIndex c idx) := by
  have hoffset := offset_of_copiedBack h
  cases c with
  | ci8 =>
    rw [regionIndex_ci8, hoffset, Nat.zero_add, srcNo_of_copiedBack h hidx]
    exact indexFor_ci8 hidx
  | ci4 =>
    have hbyte : idx / 2 < p2b .ci4 (pixelCount s) := by
      show idx / 2 < (pixelCount s + 1) / 2
      omega
    rw [regionIndex_ci4, hoffset, Nat.zero_add, srcNo_of_copiedBack h hbyte]
    exact indexFor_ci4 hidx
  | _ => exact absurd hc (by decide)

theorem palNo_of_copiedBack (h : PaletteCopiedBack (s.afterEnc c) u) {a : Nat} (ha : a < 2 * palCapOf c) :
    palNo u a = opalNo (s.afterEnc c) a := by
  obtain ⟨-, hbytes, -⟩ := h
  exact congrArg BitVec.toNat (hbytes a (opalLen_afterEnc_toNat s c ▸ ha))

/-- An index that a pixel can have is below the capacity: an entry of the palette, or 0. -/
theorem index_lt_of_indexFor {cap idx k : Nat} (hcap : 0 < cap) (h : IndexFor s cap idx k) : k < cap := by
  obtain ⟨hin, hout⟩ := h
  by_cases hmem : rawNo s idx ∈ paletteOf s cap
  · have hlen : (paletteOf s cap).length ≤ cap := length_paletteAfter_le
    exact (List.getElem?_eq_some_iff.mp (hin hmem)).1.trans_le hlen
  · rw [hout hmem]
    exact hcap

/-- Entry 0 is the first pixel's raw value (43_encode.md R235). -/
theorem paletteOf_zero {cap : Nat} (hcap : 0 < cap) (hpos : 0 < pixelCount s) :
    (paletteOf s cap)[0]? = some (rawNo s 0) := by
  obtain ⟨later, hlater⟩ : paletteAfter (rawNo s) cap 1 <+: paletteOf s cap := paletteAfter_prefix hpos
  have hfirst : paletteAfter (rawNo s) cap 1 = [rawNo s 0] := List.take_of_length_le hcap
  rw [← hlater, hfirst]
  rfl

/-- The raw value of the palette entry a pixel gets: its own, or the first pixel's (43_encode.md R263). -/
theorem getElem?_of_indexFor {cap idx k : Nat} (hcap : 0 < cap) (hidx : idx < pixelCount s) (h : IndexFor s cap idx k) :
    (paletteOf s cap)[k]? =
      some (if rawNo s idx ∈ paletteOf s cap then rawNo s idx else rawNo s 0) := by
  obtain ⟨hin, hout⟩ := h
  split
  · exact hin ‹_›
  · rw [hout ‹_›]
    exact paletteOf_zero hcap (Nat.zero_lt_of_lt hidx)

/-- A copied palette entry decodes as its raw value (41_decode_pixel.md R156). -/
theorem palColorNo_of_copiedBack (hc : indexed c = true) (h : PaletteCopiedBack (s.afterEnc c) u) {k v : Nat}
    (hk : k < palCapOf c) (hv : (paletteOf s (palCapOf c))[k]? = some v) :
    palColorNo u k = rgba16No (v / 256) (v % 256) := by
  obtain ⟨-, hentries, -⟩ := paletteDone_afterEnc s hc
  have hentry := hentries k v hv
  have hlow : opalNo (s.afterEnc c) (2 * k + 1) < 256 := ((s.afterEnc c).readByte .opal (2 * k + 1)).isLt
  rw [palColorNo, palNo_of_copiedBack h (by omega), palNo_of_copiedBack h (by omega),
    show v / 256 = opalNo (s.afterEnc c) (2 * k) by omega, show v % 256 = opalNo (s.afterEnc c) (2 * k + 1) by omega]

/-- The Color of a texel of an indexed codec is that of its palette entry (41_decode_pixel.md R167, R168). -/
theorem regionColor_of_indexed (hc : indexed c = true) (m : ModeField) (idx : Nat) :
    u.regionColor c m idx = u.palColor (u.regionIndex c idx) := by
  cases c with
  | ci8 | ci4 => rfl
  | _ => exact absurd hc (by decide)

/-- Every index that the encode stored has its entry in the copied palette, so the decode is admitted. -/
theorem decrgn_admitted_of_copiedBack (hc : indexed c = true) (h : CopiedBack (s.afterEnc c) u)
    (hpal : PaletteCopiedBack (s.afterEnc c) u) (m : ModeField) : u.decrgnRefusal c m = none := by
  have hmode : readsMode c = false := by revert hc; cases c <;> decide
  obtain ⟨hlen, -, hcap⟩ := hpal
  rw [opalLen_afterEnc_toNat] at hlen
  refine (decrgn_admitted_iff ..).mpr ⟨regionFits_of_copiedBack h, by simp [hmode], fun _ => ⟨hcap, ?_⟩⟩
  intro idx hidx _
  rw [pixelCount_of_copiedBack h] at hidx
  have hindex := index_lt_of_indexFor (palCapOf_pos hc) (indexFor_regionIndex hc h hidx)
  omega

/-- What the round trip of an indexed codec gives for a pixel (43_encode.md R263). -/
theorem bmpNo_of_paletteCopiedBack (hc : indexed c = true) (h : CopiedBack (s.afterEnc c) u)
    (hpal : PaletteCopiedBack (s.afterEnc c) u) (m : ModeField) {idx : Nat} (hidx : idx < pixelCount s) :
    bmpNo (u.afterRegion c m) idx =
      if rawNo s idx ∈ paletteOf s (palCapOf c) then rgba16No (rawNo s idx / 256) (rawNo s idx % 256)
      else rgba16No (rawNo s 0 / 256) (rawNo s 0 % 256) := by
  have hin : idx < pixelCount u := by rwa [pixelCount_of_copiedBack h]
  have hindex := indexFor_regionIndex hc h hidx
  have hcap := palCapOf_pos hc
  rw [bmpNo_afterRegion_of_texelIn m ⟨hin, texelIn_of_copiedBack h hidx⟩, regionColor_of_indexed hc,
    colorNo_palColor,
    palColorNo_of_copiedBack hc hpal (index_lt_of_indexFor hcap hindex) (getElem?_of_indexFor hcap hidx hindex)]
  split <;> rfl

theorem paletteRoundTrip_of_indexed (hc : indexed c = true) (m m' : ModeField) (q q' : SelField) {t : State}
    (henc : exec (Instr.ofParts .enc c m q) s = .next t) (h : CopiedBack t u) (hpal : PaletteCopiedBack t u) :
    ∃ v, exec (Instr.ofParts .decrgn c m' q') u = .next v ∧
      ∀ idx, idx < pixelCount s →
        bmpNo v idx =
          if rawNo s idx ∈ paletteOf s (palCapOf c) then rgba16No (rawNo s idx / 256) (rawNo s idx % 256)
          else rgba16No (rawNo s 0 / 256) (rawNo s 0 % 256) := by
  obtain ⟨-, rfl⟩ := (exec_enc_next_iff ..).mp henc
  exact ⟨_, (exec_decrgn_next_iff ..).mpr ⟨decrgn_admitted_of_copiedBack hc h hpal m', rfl⟩,
    fun _ => bmpNo_of_paletteCopiedBack hc h hpal m'⟩

end Copy

end Sys2Proof.Machine

namespace Sys2Proof.Proofs

open Sys2Proof.Machine Sys2Proof.Claims

/-- Settles O45: the four bytes of a texel are its channels, in the order the decode takes them. -/
theorem rgba32RoundTripIsLossless : Obligations.Rgba32RoundTripIsLossless := by
  intro m m' q q' s t u henc hcopy
  obtain ⟨-, rfl⟩ := (exec_enc_next_iff s t .rgba32 m q).mp henc
  refine ⟨_, exec_decrgn_of_copiedBack hcopy rfl rfl m' q', fun idx hidx => ?_⟩
  exact (readTexel_of_copiedBack hcopy m' hidx).trans (texRgba32_of_copiedBack hcopy hidx)

/-- Settles O46: each channel comes back reduced and expanded, within the bounds of the quantization laws. -/
theorem rgba16RoundTripIsClose : Obligations.Rgba16RoundTripIsClose := by
  intro m m' q q' s t u henc hcopy
  obtain ⟨-, rfl⟩ := (exec_enc_next_iff s t .rgba16 m q).mp henc
  obtain ⟨-, -, -, hfive, -⟩ := quantizationLaws
  refine ⟨_, exec_decrgn_of_copiedBack hcopy rfl rfl m' q', fun idx hidx => ?_⟩
  have hback := (readTexel_of_copiedBack hcopy m' hidx).trans
    ((texRgba16_of_copiedBack hcopy hidx).trans (rgba16ToColor_colorToRaw16 _))
  have hclose (v : Byte) : v.toNat ≤ (up5 (dn5 v)).toNat + 5 ∧ (up5 (dn5 v)).toNat ≤ v.toNat + 4 := by
    obtain ⟨hlo, hhi, -⟩ := hfive v
    exact ⟨hlo, hhi⟩
  rw [hback]
  refine ⟨?_, ?_⟩
  · rintro p (rfl | rfl | rfl) <;> exact hclose _
  · rw [up1_toNat, bin1]
    unfold alphaOfTexel
    split <;> simp [*]

/-- Settles O47: the two nibbles are the reduced mean and alpha, which the decode expands by 17. -/
theorem ia8RoundTripKeepsMultiplesOf17 : Obligations.Ia8RoundTripKeepsMultiplesOf17 := by
  intro m m' q q' s t u henc hcopy
  obtain ⟨-, rfl⟩ := (exec_enc_next_iff s t .ia8 m q).mp henc
  refine ⟨_, exec_decrgn_of_copiedBack hcopy rfl rfl m' q', fun idx hidx => ?_⟩
  have halpha : alphaOfTexel s idx < 256 := (s.readTexel idx).a.isLt
  have haddr : texelAddr .ia8 0 idx = idx := (congrFun (texelAddr_oneByte rfl 0) idx).trans (Nat.zero_add idx)
  rw [bmpNo_eq_colorNo, readTexel_of_copiedBack hcopy m' hidx, haddr]
  refine (colorNo_texIa8 u idx).trans ?_
  rw [srcNo_of_copiedBack_ia8 hcopy hidx, ia8No_of_reduced _ (by omega)]

/-- Settles O48: the two codecs are the indexed ones, with their capacities. -/
theorem paletteRoundTrip : Obligations.PaletteRoundTrip := by
  rintro m m' q q' s t u cap enc dec (⟨rfl, rfl, rfl⟩ | ⟨rfl, rfl, rfl⟩) henc hcopy hpal
  · exact paletteRoundTrip_of_indexed (c := .ci8) rfl m m' q q' henc hcopy hpal
  · exact paletteRoundTrip_of_indexed (c := .ci4) rfl m m' q q' henc hcopy hpal

end Sys2Proof.Proofs
end
